-- ==== Sys2Proof/Word.lean ====
section
/-! DEFINITION. The value types at the block's boundary (spec/10_state.md R14 to R18): the word, the closed
enumeration of tags, the names of the dispatch tables, the failure value, and the result of one classification. -/

namespace Sys2Proof

/-- R14: "an unsigned 32-bit value, the atomic unit of decoding". Bit 31 is the most significant (R6). -/
abbrev Word := BitVec 32

/-- One byte of the environment's buffer (R21). -/
abbrev Byte := BitVec 8

/-- R15: the closed enumeration of the 64 tags a word can be classified as, in the order R15 lists them.
The spelling of a tag is exactly its name in R15 (R57). UNKNOWN is a tag, not an error. -/
inductive OpCode where
  | ADDIU | BNE | LUI | LW | SW | ORI | BEQ | JAL | ADDI | ANDI
  | SLTIU | CACHE | BNEL | SLTI | BEQL | BLEZL | SB | LBU | XORI | J
  | LB | LWC1 | LH | SC | SCD | LWL | DADDI | LL | BLEZ | SD
  | BGEZL | BGEZAL | BLTZ | BLTZAL | TGEI
  | SLL | OR | AND | ADD | SLT | SLTU | JR | MFLO | ADDU | SUBU | SRLV | SLLV
  | XOR | SRL | MULTU | MOVCI | DSRA32 | MFHI | SRA | SYSCALL | SYNC | DSLL | DSRL32
  | MFC0 | MTC0
  | MFC1
  | MFC2
  | VNE
  | UNKNOWN
  deriving DecidableEq, Repr, Inhabited

/-- R15: the 30 tags that the primary opcode selects on its own, in the source's order (R71 step 2). -/
def OpCode.direct : List OpCode :=
  [.ADDIU, .BNE, .LUI, .LW, .SW, .ORI, .BEQ, .JAL, .ADDI, .ANDI,
   .SLTIU, .CACHE, .BNEL, .SLTI, .BEQL, .BLEZL, .SB, .LBU, .XORI, .J,
   .LB, .LWC1, .LH, .SC, .SCD, .LWL, .DADDI, .LL, .BLEZ, .SD]

/-- R15: the 5 tags of the REGIMM table (R71 step 3). -/
def OpCode.regimm : List OpCode := [.BGEZL, .BGEZAL, .BLTZ, .BLTZAL, .TGEI]

/-- R15: the 23 tags of the SPECIAL table, in the source's order (R71 step 4). -/
def OpCode.special : List OpCode :=
  [.SLL, .OR, .AND, .ADD, .SLT, .SLTU, .JR, .MFLO, .ADDU, .SUBU, .SRLV, .SLLV,
   .XOR, .SRL, .MULTU, .MOVCI, .DSRA32, .MFHI, .SRA, .SYSCALL, .SYNC, .DSLL, .DSRL32]

/-- R15: all 64 tags in the order of listing. -/
def OpCode.all : List OpCode :=
  OpCode.direct ++ OpCode.regimm ++ OpCode.special ++ [.MFC0, .MTC0, .MFC1, .MFC2, .VNE, .UNKNOWN]

/-- R16: the dispatch tables in which a lookup can fail. There is no value COP0 (R173). -/
inductive TableName where
  | PRIMARY | SPECIAL | REGIMM | COP1 | COP2 | COP2VEC
  deriving DecidableEq, Repr, Inhabited

/-- R17: the failure value `UnknownOpcode{table, field_value, word}`. `fieldValue` is the unsigned value of the
bitfield that had no entry, right-aligned (R192), a natural number (D7). It is a returned value, not a trap (R205). -/
structure DecodeError where
  table : TableName
  fieldValue : Nat
  word : Word
  deriving DecidableEq, Repr

/-- R18: the Instruction value `{ opcode: OpCode, word: Word }`: the tag paired with the input word, all 32 bits
unchanged. Two are equal exactly when tags and words are equal (R76). -/
structure Instruction where
  opcode : OpCode
  word : Word
  deriving DecidableEq, Repr

/-- R17: the result of one classification, `Ok(Instruction)` or `Err(UnknownOpcode)`. -/
abbrev DecodeResult := Except DecodeError Instruction

end Sys2Proof
end

