-- ==== Sys2Proof/Config.lean ====
section
/-! DEFINITION. What an implementation fixes (spec/00_scope.md R5) and the values the spec leaves open: the numeric
maps as parameters (R61), the open codes of the ports (D5), the free values of outputs that are not meaningful (D8)
and of the text predicate (D19). -/

namespace Sys2Proof

/-- R5, R23: the cartridge header is the first 64 bytes of the image. -/
abbrev Config.headerBytes : Nat := 0x40

/-- R5, R23: the byte offset of the first bootcode word. -/
abbrev Config.bootcodeOffset : Nat := 0x40

/-- R5, R25: "exactly 1008 consecutive 4-byte big-endian words". -/
abbrev Config.bootcodeWords : Nat := 1008

/-- R23: the first byte after the PIF boot block; "the environment reads nothing at or beyond this offset". -/
abbrev Config.bootBlockBytes : Nat := 0x1000

/-- R5, R61: the two numeric maps as parameters. `primaryCode` is consulted on `OpCode.direct` only and
`functCode` on `OpCode.special` only. -/
structure CodeMaps where
  primaryCode : OpCode → BitVec 6
  functCode : OpCode → BitVec 6

/-- R61 (b): the eight primary values that dispatch steps 3 to 8 claim. -/
def CodeMaps.claimed : List (BitVec 6) :=
  [0b000000#6, 0b000001#6, 0b010000#6, 0b010001#6, 0b010010#6, 0b011100#6, 0b011111#6, 0b110010#6]

/-- R61: the constraints (a) to (e) on the two maps. -/
structure CodeMaps.Admissible (m : CodeMaps) : Prop where
  /-- (a) injective on the 30 direct mnemonics -/
  primary_injective : ∀ a ∈ OpCode.direct, ∀ b ∈ OpCode.direct, m.primaryCode a = m.primaryCode b → a = b
  /-- (b) none of the eight claimed values -/
  primary_unclaimed : ∀ a ∈ OpCode.direct, m.primaryCode a ∉ CodeMaps.claimed
  /-- (c) the source's anchor for ADDIU -/
  primary_addiu : m.primaryCode .ADDIU = 0b001001#6
  /-- (d) injective on the 23 SPECIAL mnemonics -/
  funct_injective : ∀ a ∈ OpCode.special, ∀ b ∈ OpCode.special, m.functCode a = m.functCode b → a = b
  /-- (e) the source's anchor for SLL -/
  funct_sll : m.functCode .SLL = 0b000000#6

/-- R5 TAG_ENC and TABLE_ENC, R19, D5: any injective codes of the tags, in 7 or more bits, and of the table names, in 3
or more bits, on output ports. -/
structure PortCodes (tagBits tableBits : Nat) where
  tagEnc : OpCode → BitVec tagBits
  tableEnc : TableName → BitVec tableBits
  tag_width : 7 ≤ tagBits
  table_width : 3 ≤ tableBits
  tag_injective : ∀ a b, tagEnc a = tagEnc b → a = b
  table_injective : ∀ a b, tableEnc a = tableEnc b → a = b

/-- FREE VALUE (log entry 6). R19, D8: port `tag` when `ok = 0` "holds any value: the spec fixes none"; the block is
combinational (R225), so it is some function of the input word. -/
opaque Config.idleTag : Word → OpCode

/-- FREE VALUE (log entry 6). R19, D8: port `err_table` when `ok = 1`. -/
opaque Config.idleErrTable : Word → TableName

/-- FREE VALUE (log entry 6). R19, D8: port `err_field` when `ok = 1`. -/
opaque Config.idleErrField : Word → BitVec 6

/-- FREE VALUE (log entry 6). R19, D8: the wires of port `tag` when `ok = 0`, any value of their width, a code of a tag
or not. -/
opaque Config.idleTagBits : (tagBits : Nat) → Word → BitVec tagBits

/-- FREE VALUE (log entry 6). R19, D8: the wires of port `err_table` when `ok = 1`, any value of their width, a code of a
table name or not. -/
opaque Config.idleTableBits : (tableBits : Nat) → Word → BitVec tableBits

/-- FREE VALUE (log entry 7). R5 TEXT_VALID, D19: "these 20 bytes are valid text"; the source names no encoding. -/
opaque Config.textValid : List Byte → Bool

end Sys2Proof
end

