-- ==== Sys2Proof/Syntax.lean ====
section
/-! DEFINITION. The instructions: what the dispatch tree (spec/40_classify_toplevel.md R71) can find in a word. One
constructor for each rule of spec/opcode_table.json; rows that differ only in the value of ONE key field (the 30 formats
of the COP0 fallback, the three UNKNOWN primaries, the failing values of each error table) share a constructor whose
first argument is that key field (log entry 12). The bits a path does not look at (R48, R77) are carried as one
uninterpreted vector per run of bits, so that no bit of the word is lost; they are no operands (R47). -/

namespace Sys2Proof

/-- The classified words. `ignored` (or `hi` and `lo`) are the don't-care bits of the format (R48):
P 25:0; S 25:6; R 25:21 and 15:0; C 20:0; V 20:6. -/
inductive Instr where
  -- format P, direct primary mnemonics (R91 to R120)
  /-- R91: primary = 0b001001 -/
  | addiu (ignored : BitVec 26)
  /-- R92: primary = 0b000101 -/
  | bne (ignored : BitVec 26)
  /-- R93: primary = 0b001111 -/
  | lui (ignored : BitVec 26)
  /-- R94: primary = 0b100011 -/
  | lw (ignored : BitVec 26)
  /-- R95: primary = 0b101011 -/
  | sw (ignored : BitVec 26)
  /-- R96: primary = 0b001101 -/
  | ori (ignored : BitVec 26)
  /-- R97: primary = 0b000100 -/
  | beq (ignored : BitVec 26)
  /-- R98: primary = 0b000011 -/
  | jal (ignored : BitVec 26)
  /-- R99: primary = 0b001000 -/
  | addi (ignored : BitVec 26)
  /-- R100: primary = 0b001100 -/
  | andi (ignored : BitVec 26)
  /-- R101: primary = 0b001011 -/
  | sltiu (ignored : BitVec 26)
  /-- R102: primary = 0b101111 -/
  | cache (ignored : BitVec 26)
  /-- R103: primary = 0b010101 -/
  | bnel (ignored : BitVec 26)
  /-- R104: primary = 0b001010 -/
  | slti (ignored : BitVec 26)
  /-- R105: primary = 0b010100 -/
  | beql (ignored : BitVec 26)
  /-- R106: primary = 0b010110 -/
  | blezl (ignored : BitVec 26)
  /-- R107: primary = 0b101000 -/
  | sb (ignored : BitVec 26)
  /-- R108: primary = 0b100100 -/
  | lbu (ignored : BitVec 26)
  /-- R109: primary = 0b001110 -/
  | xori (ignored : BitVec 26)
  /-- R110: primary = 0b000010 -/
  | j (ignored : BitVec 26)
  /-- R111: primary = 0b100000 -/
  | lb (ignored : BitVec 26)
  /-- R112: primary = 0b110001 -/
  | lwc1 (ignored : BitVec 26)
  /-- R113: primary = 0b100001 -/
  | lh (ignored : BitVec 26)
  /-- R114: primary = 0b111000 -/
  | sc (ignored : BitVec 26)
  /-- R115: primary = 0b111100 -/
  | scd (ignored : BitVec 26)
  /-- R116: primary = 0b100010 -/
  | lwl (ignored : BitVec 26)
  /-- R117: primary = 0b011000 -/
  | daddi (ignored : BitVec 26)
  /-- R118: primary = 0b110000 -/
  | ll (ignored : BitVec 26)
  /-- R119: primary = 0b000110 -/
  | blez (ignored : BitVec 26)
  /-- R120: primary = 0b111111 -/
  | sd (ignored : BitVec 26)
  -- format R, REGIMM (R131 to R135)
  /-- R131: regimm_rt = 0b00011 -/
  | bgezl (hi : BitVec 5) (lo : BitVec 16)
  /-- R132: regimm_rt = 0b10001 -/
  | bgezal (hi : BitVec 5) (lo : BitVec 16)
  /-- R133: regimm_rt = 0b00000 -/
  | bltz (hi : BitVec 5) (lo : BitVec 16)
  /-- R134: regimm_rt = 0b10000 -/
  | bltzal (hi : BitVec 5) (lo : BitVec 16)
  /-- R135: regimm_rt = 0b01000 -/
  | tgei (hi : BitVec 5) (lo : BitVec 16)
  -- format S, SPECIAL (R141 to R163)
  /-- R141: funct = 0b000000 -/
  | sll (ignored : BitVec 20)
  /-- R142: funct = 0b100101 -/
  | or (ignored : BitVec 20)
  /-- R143: funct = 0b100100 -/
  | and (ignored : BitVec 20)
  /-- R144: funct = 0b100000 -/
  | add (ignored : BitVec 20)
  /-- R145: funct = 0b101010 -/
  | slt (ignored : BitVec 20)
  /-- R146: funct = 0b101011 -/
  | sltu (ignored : BitVec 20)
  /-- R147: funct = 0b001000 -/
  | jr (ignored : BitVec 20)
  /-- R148: funct = 0b010010 -/
  | mflo (ignored : BitVec 20)
  /-- R149: funct = 0b100001 -/
  | addu (ignored : BitVec 20)
  /-- R150: funct = 0b100011 -/
  | subu (ignored : BitVec 20)
  /-- R151: funct = 0b000110 -/
  | srlv (ignored : BitVec 20)
  /-- R152: funct = 0b000100 -/
  | sllv (ignored : BitVec 20)
  /-- R153: funct = 0b100110 -/
  | xor (ignored : BitVec 20)
  /-- R154: funct = 0b000010 -/
  | srl (ignored : BitVec 20)
  /-- R155: funct = 0b011001 -/
  | multu (ignored : BitVec 20)
  /-- R156: funct = 0b000001 -/
  | movci (ignored : BitVec 20)
  /-- R157: funct = 0b111111 -/
  | dsra32 (ignored : BitVec 20)
  /-- R158: funct = 0b010000 -/
  | mfhi (ignored : BitVec 20)
  /-- R159: funct = 0b000011 -/
  | sra (ignored : BitVec 20)
  /-- R160: funct = 0b001100 -/
  | syscall (ignored : BitVec 20)
  /-- R161: funct = 0b001111 -/
  | sync (ignored : BitVec 20)
  /-- R162: funct = 0b111000 -/
  | dsll (ignored : BitVec 20)
  /-- R163: funct = 0b111110 -/
  | dsrl32 (ignored : BitVec 20)
  -- formats C and V, the coprocessors (R171 to R183)
  /-- R171: COP0, cop_fmt = 0b00000, the exact entry -/
  | mfc0 (ignored : BitVec 21)
  /-- R172: COP0, cop_fmt = 0b00100 -/
  | mtc0 (ignored : BitVec 21)
  /-- R173: COP0, every other cop_fmt: the lenient fallback, a success with tag MFC0 -/
  | mfc0Fallback (fmt : BitVec 5) (ignored : BitVec 21)
  /-- R177: COP1, cop_fmt = 0b00000 -/
  | mfc1 (ignored : BitVec 21)
  /-- R181: COP2, cop_fmt = 0b00000 -/
  | mfc2 (ignored : BitVec 21)
  /-- R183: COP2, cop_fmt = 0b10001, cop2_vec_op = 0b100010 -/
  | vne (ignored : BitVec 15)
  /-- R190: primary is 0b011111, 0b110010 or 0b011100: recognized but unimplemented, a success -/
  | unknown (primary : BitVec 6) (ignored : BitVec 26)
  -- the returned failures UnknownOpcode (R191, R164, R136, R178, R185, R184)
  /-- R191: a primary value that no dispatch step claims -/
  | unknownPrimary (primary : BitVec 6) (ignored : BitVec 26)
  /-- R164: SPECIAL, a funct value with no entry -/
  | unknownSpecial (funct : BitVec 6) (ignored : BitVec 20)
  /-- R136: REGIMM, an rt value with no entry -/
  | unknownRegimm (rt : BitVec 5) (hi : BitVec 5) (lo : BitVec 16)
  /-- R178: COP1, a format other than 0b00000 -/
  | unknownCop1 (fmt : BitVec 5) (ignored : BitVec 21)
  /-- R185: COP2, a format other than 0b00000 and 0b10001 -/
  | unknownCop2 (fmt : BitVec 5) (ignored : BitVec 21)
  /-- R184: COP2-VEC, a vector op other than 0b100010 -/
  | unknownCop2Vec (op : BitVec 6) (ignored : BitVec 15)
  deriving DecidableEq, Repr

end Sys2Proof
end

