-- ==== Sys2Proof/WellFormed.lean ====
section
/-! DEFINITION. Which terms of `Instr` stand for words: a constructor that carries a key field may carry only the values
its rule lists (spec/47_unknown_and_errors.md R190, R191, spec/43_special.md R164, spec/42_regimm.md R136,
spec/44_cop0.md R173, spec/45_cop1.md R178, spec/46_cop2.md R184, R185). Every other constructor is always well formed. -/

namespace Sys2Proof

/-- R190: the three primary values that are recognized but unimplemented. -/
def unknownPrimaries : List Nat := [0b011111, 0b110010, 0b011100]

/-- R191: the 26 primary values that none of dispatch steps 2 to 8 claims. -/
def primaryErrors : List Nat :=
  [7, 19, 23, 25, 26, 27, 29, 30, 37, 38, 39, 41, 42, 44, 45, 46, 51, 52, 53, 54, 55, 57, 58, 59, 61,
   62]

/-- R164: the 41 unmapped funct values. -/
def specialErrors : List Nat :=
  [5, 7, 9, 10, 11, 13, 14, 17, 19, 20, 21, 22, 23, 24, 26, 27, 28, 29, 30, 31, 34, 39, 40, 41, 44,
   45, 46, 47, 48, 49, 50, 51, 52, 53, 54, 55, 57, 58, 59, 60, 61]

/-- R136: the 27 rt values with no entry. -/
def regimmErrors : List Nat :=
  [1, 2, 4, 5, 6, 7, 9, 10, 11, 12, 13, 14, 15, 18, 19, 20, 21, 22, 23, 24, 25, 26, 27, 28, 29, 30,
   31]

/-- The check of a term: the key field it carries is one its rule lists. -/
def Instr.wf : Instr → Bool
  | .addiu _ | .bne _ | .lui _ | .lw _ | .sw _ | .ori _ | .beq _ | .jal _ | .addi _ | .andi _ | .sltiu _
  | .cache _ | .bnel _ | .slti _ | .beql _ | .blezl _ | .sb _ | .lbu _ | .xori _ | .j _ | .lb _ | .lwc1 _
  | .lh _ | .sc _ | .scd _ | .lwl _ | .daddi _ | .ll _ | .blez _ | .sd _ | .bgezl _ _ | .bgezal _ _
  | .bltz _ _ | .bltzal _ _ | .tgei _ _ | .sll _ | .or _ | .and _ | .add _ | .slt _ | .sltu _ | .jr _
  | .mflo _ | .addu _ | .subu _ | .srlv _ | .sllv _ | .xor _ | .srl _ | .multu _ | .movci _ | .dsra32 _
  | .mfhi _ | .sra _ | .syscall _ | .sync _ | .dsll _ | .dsrl32 _ | .mfc0 _ | .mtc0 _ | .mfc1 _ | .mfc2 _
  | .vne _ => true
  | .mfc0Fallback fmt _ => fmt != 0b00000#5 && fmt != 0b00100#5
  | .unknown primary _ => unknownPrimaries.contains primary.toNat
  | .unknownPrimary primary _ => primaryErrors.contains primary.toNat
  | .unknownSpecial funct _ => specialErrors.contains funct.toNat
  | .unknownRegimm rt _ _ => regimmErrors.contains rt.toNat
  | .unknownCop1 fmt _ => fmt != 0b00000#5
  | .unknownCop2 fmt _ => fmt != 0b00000#5 && fmt != 0b10001#5
  | .unknownCop2Vec op _ => op != 0b100010#6

end Sys2Proof
end

