-- ==== Sys2Proof/Decode.lean ====
section
/-! DEFINITION. Decoding. The five field extractors (spec/30_encoding.md R41 to R45); the maps and the classifier of
spec/40_classify_toplevel.md R71, transcribed from its pseudocode over the parameters PRIMARY_CODE and FUNCT_CODE;
`Instruction::decode` (R76); the decoder from words and from bytes to `Instr`, written value by value from the maps R49
to R54; the encoder. -/

namespace Sys2Proof

/-! ### The fields -/

/-- R41: `primary(word) = word[31:26]`. -/
def primary (w : Word) : BitVec 6 := w.extractLsb' 26 6

/-- R42: `funct(word) = word[5:0]`, used only when primary is 0. -/
def funct (w : Word) : BitVec 6 := w.extractLsb' 0 6

/-- R43: `regimm_rt(word) = word[20:16]`, used only when primary is 1; a dispatch key, never a register number. -/
def regimmRt (w : Word) : BitVec 5 := w.extractLsb' 16 5

/-- R44: `cop_fmt(word) = word[25:21]`, used when primary selects a coprocessor. -/
def copFmt (w : Word) : BitVec 5 := w.extractLsb' 21 5

/-- R45: `cop2_vec_op(word) = word[5:0]`, used only under COP2 with `cop_fmt = 0b10001`. -/
def cop2VecOp (w : Word) : BitVec 6 := w.extractLsb' 0 6

/-! ### The maps -/

/-- R49, R91 to R120: the primary value of each direct mnemonic. ADDIU is the source's; the other 29 are the spec's
decision D6 for the standard MIPS map (log entry 3). -/
def primaryTable : List (OpCode × BitVec 6) :=
  [(.ADDIU, 0b001001#6), (.BNE, 0b000101#6), (.LUI, 0b001111#6), (.LW, 0b100011#6), (.SW, 0b101011#6),
   (.ORI, 0b001101#6), (.BEQ, 0b000100#6), (.JAL, 0b000011#6), (.ADDI, 0b001000#6), (.ANDI, 0b001100#6),
   (.SLTIU, 0b001011#6), (.CACHE, 0b101111#6), (.BNEL, 0b010101#6), (.SLTI, 0b001010#6), (.BEQL, 0b010100#6),
   (.BLEZL, 0b010110#6), (.SB, 0b101000#6), (.LBU, 0b100100#6), (.XORI, 0b001110#6), (.J, 0b000010#6),
   (.LB, 0b100000#6), (.LWC1, 0b110001#6), (.LH, 0b100001#6), (.SC, 0b111000#6), (.SCD, 0b111100#6),
   (.LWL, 0b100010#6), (.DADDI, 0b011000#6), (.LL, 0b110000#6), (.BLEZ, 0b000110#6), (.SD, 0b111111#6)]

/-- R50, R141 to R163: the funct value of each SPECIAL mnemonic. SLL is the source's; the other 22 are the spec's
decision D6 for the standard MIPS map (log entry 3). -/
def functTable : List (OpCode × BitVec 6) :=
  [(.SLL, 0b000000#6), (.OR, 0b100101#6), (.AND, 0b100100#6), (.ADD, 0b100000#6), (.SLT, 0b101010#6),
   (.SLTU, 0b101011#6), (.JR, 0b001000#6), (.MFLO, 0b010010#6), (.ADDU, 0b100001#6), (.SUBU, 0b100011#6),
   (.SRLV, 0b000110#6), (.SLLV, 0b000100#6), (.XOR, 0b100110#6), (.SRL, 0b000010#6), (.MULTU, 0b011001#6),
   (.MOVCI, 0b000001#6), (.DSRA32, 0b111111#6), (.MFHI, 0b010000#6), (.SRA, 0b000011#6), (.SYSCALL, 0b001100#6),
   (.SYNC, 0b001111#6), (.DSLL, 0b111000#6), (.DSRL32, 0b111110#6)]

/-- R5: the default values of PRIMARY_CODE and FUNCT_CODE. The maps are consulted on the mnemonics of their table only. -/
def standardMaps : CodeMaps where
  primaryCode t := (primaryTable.lookup t).getD 0
  functCode t := (functTable.lookup t).getD 0

/-- R71 step 2: "p is a value of PRIMARY_CODE, say PRIMARY_CODE(M) = p". -/
def CodeMaps.directOf? (m : CodeMaps) (p : BitVec 6) : Option OpCode :=
  OpCode.direct.find? fun t => m.primaryCode t == p

/-- R71: "f is a value of FUNCT_CODE, say FUNCT_CODE(M) = f". -/
def CodeMaps.specialOf? (m : CodeMaps) (f : BitVec 6) : Option OpCode :=
  OpCode.special.find? fun t => m.functCode t == f

/-! ### The classifier, as R71 writes it -/

/-- R71 `classify_regimm`, R130. -/
def classifyRegimm (w : Word) : Except DecodeError OpCode :=
  let r := regimmRt w
  if r = 0b00011#5 then .ok .BGEZL
  else if r = 0b10001#5 then .ok .BGEZAL
  else if r = 0b00000#5 then .ok .BLTZ
  else if r = 0b10000#5 then .ok .BLTZAL
  else if r = 0b01000#5 then .ok .TGEI
  else .error ⟨.REGIMM, r.toNat, w⟩

/-- R71 `classify_special`, R140, over FUNCT_CODE. -/
def classifySpecial (m : CodeMaps) (w : Word) : Except DecodeError OpCode :=
  match m.specialOf? (funct w) with
  | some t => .ok t
  | none => .error ⟨.SPECIAL, (funct w).toNat, w⟩

/-- R71 `classify_cop0`, R170: never an error; the last arm is the lenient fallback (R173). -/
def classifyCop0 (w : Word) : Except DecodeError OpCode :=
  if copFmt w = 0b00000#5 then .ok .MFC0
  else if copFmt w = 0b00100#5 then .ok .MTC0
  else .ok .MFC0

/-- R71 `classify_cop1`, R176. -/
def classifyCop1 (w : Word) : Except DecodeError OpCode :=
  if copFmt w = 0b00000#5 then .ok .MFC1
  else .error ⟨.COP1, (copFmt w).toNat, w⟩

/-- R71 `classify_cop2_vec`, R183, R184. -/
def classifyCop2Vec (w : Word) : Except DecodeError OpCode :=
  if cop2VecOp w = 0b100010#6 then .ok .VNE
  else .error ⟨.COP2VEC, (cop2VecOp w).toNat, w⟩

/-- R71 `classify_cop2`, R180. -/
def classifyCop2 (w : Word) : Except DecodeError OpCode :=
  if copFmt w = 0b00000#5 then .ok .MFC2
  else if copFmt w = 0b10001#5 then classifyCop2Vec w
  else .error ⟨.COP2, (copFmt w).toNat, w⟩

/-- R71 `classify`, over the parameters; the direct mappings are tried first, as R74 asks when the maps are not known to
be admissible. -/
def classifyWith (m : CodeMaps) (w : Word) : Except DecodeError OpCode :=
  let p := primary w
  match m.directOf? p with
  | some t => .ok t
  | none =>
    if p = 0b000001#6 then classifyRegimm w
    else if p = 0b000000#6 then classifySpecial m w
    else if p = 0b010000#6 then classifyCop0 w
    else if p = 0b010001#6 then classifyCop1 w
    else if p = 0b010010#6 then classifyCop2 w
    else if p = 0b011111#6 ∨ p = 0b110010#6 ∨ p = 0b011100#6 then .ok .UNKNOWN
    else .error ⟨.PRIMARY, p.toNat, w⟩

/-- R70, R71: the classifier with the standard maps. -/
def classify (w : Word) : Except DecodeError OpCode := classifyWith standardMaps w

/-- R76 over the parameters. -/
def decodeWith (m : CodeMaps) (w : Word) : DecodeResult :=
  match classifyWith m w with
  | .ok t => .ok ⟨t, w⟩
  | .error e => .error e

/-- R76: `Instruction::decode`: the tag paired with the original word, or the failure. -/
def decodeWord (w : Word) : DecodeResult := decodeWith standardMaps w

/-! ### The decoder to `Instr`, from the maps R49 to R54 -/

/-- R49, the values that are not delegated: the 30 direct mnemonics, the three UNKNOWN values, and the PRIMARY errors. -/
def decodePrimary (p : BitVec 6) (ignored : BitVec 26) : Instr :=
  match p with
  | 0b000010#6 => .j ignored
  | 0b000011#6 => .jal ignored
  | 0b000100#6 => .beq ignored
  | 0b000101#6 => .bne ignored
  | 0b000110#6 => .blez ignored
  | 0b001000#6 => .addi ignored
  | 0b001001#6 => .addiu ignored
  | 0b001010#6 => .slti ignored
  | 0b001011#6 => .sltiu ignored
  | 0b001100#6 => .andi ignored
  | 0b001101#6 => .ori ignored
  | 0b001110#6 => .xori ignored
  | 0b001111#6 => .lui ignored
  | 0b010100#6 => .beql ignored
  | 0b010101#6 => .bnel ignored
  | 0b010110#6 => .blezl ignored
  | 0b011000#6 => .daddi ignored
  | 0b011100#6 => .unknown p ignored
  | 0b011111#6 => .unknown p ignored
  | 0b100000#6 => .lb ignored
  | 0b100001#6 => .lh ignored
  | 0b100010#6 => .lwl ignored
  | 0b100011#6 => .lw ignored
  | 0b100100#6 => .lbu ignored
  | 0b101000#6 => .sb ignored
  | 0b101011#6 => .sw ignored
  | 0b101111#6 => .cache ignored
  | 0b110000#6 => .ll ignored
  | 0b110001#6 => .lwc1 ignored
  | 0b110010#6 => .unknown p ignored
  | 0b111000#6 => .sc ignored
  | 0b111100#6 => .scd ignored
  | 0b111111#6 => .sd ignored
  | _ => .unknownPrimary p ignored

/-- R50: the SPECIAL map. -/
def decodeSpecial (f : BitVec 6) (ignored : BitVec 20) : Instr :=
  match f with
  | 0b000000#6 => .sll ignored
  | 0b000001#6 => .movci ignored
  | 0b000010#6 => .srl ignored
  | 0b000011#6 => .sra ignored
  | 0b000100#6 => .sllv ignored
  | 0b000110#6 => .srlv ignored
  | 0b001000#6 => .jr ignored
  | 0b001100#6 => .syscall ignored
  | 0b001111#6 => .sync ignored
  | 0b010000#6 => .mfhi ignored
  | 0b010010#6 => .mflo ignored
  | 0b011001#6 => .multu ignored
  | 0b100000#6 => .add ignored
  | 0b100001#6 => .addu ignored
  | 0b100011#6 => .subu ignored
  | 0b100100#6 => .and ignored
  | 0b100101#6 => .or ignored
  | 0b100110#6 => .xor ignored
  | 0b101010#6 => .slt ignored
  | 0b101011#6 => .sltu ignored
  | 0b111000#6 => .dsll ignored
  | 0b111110#6 => .dsrl32 ignored
  | 0b111111#6 => .dsra32 ignored
  | _ => .unknownSpecial f ignored

/-- R51: the REGIMM map. -/
def decodeRegimm (rt hi : BitVec 5) (lo : BitVec 16) : Instr :=
  match rt with
  | 0b00000#5 => .bltz hi lo
  | 0b00011#5 => .bgezl hi lo
  | 0b01000#5 => .tgei hi lo
  | 0b10000#5 => .bltzal hi lo
  | 0b10001#5 => .bgezal hi lo
  | _ => .unknownRegimm rt hi lo

/-- R52: the COP0 map; no value is an error. -/
def decodeCop0 (fmt : BitVec 5) (ignored : BitVec 21) : Instr :=
  match fmt with
  | 0b00000#5 => .mfc0 ignored
  | 0b00100#5 => .mtc0 ignored
  | _ => .mfc0Fallback fmt ignored

/-- R53: the COP1 map. -/
def decodeCop1 (fmt : BitVec 5) (ignored : BitVec 21) : Instr :=
  match fmt with
  | 0b00000#5 => .mfc1 ignored
  | _ => .unknownCop1 fmt ignored

/-- R54: the COP2-VEC map. -/
def decodeCop2Vec (op : BitVec 6) (ignored : BitVec 15) : Instr :=
  match op with
  | 0b100010#6 => .vne ignored
  | _ => .unknownCop2Vec op ignored

/-- R54: the COP2 map. The word is needed because format 0b10001 looks at bits 5:0 too (R77). -/
def decodeCop2 (fmt : BitVec 5) (w : Word) : Instr :=
  match fmt with
  | 0b00000#5 => .mfc2 (w.extractLsb' 0 21)
  | 0b10001#5 => decodeCop2Vec (cop2VecOp w) (w.extractLsb' 6 15)
  | _ => .unknownCop2 fmt (w.extractLsb' 0 21)

/-- R49: the decoder of a whole word, total over all 2^32 words (R72). -/
def decode (w : Word) : Instr :=
  match primary w with
  | 0b000000#6 => decodeSpecial (funct w) (w.extractLsb' 6 20)
  | 0b000001#6 => decodeRegimm (regimmRt w) (w.extractLsb' 21 5) (w.extractLsb' 0 16)
  | 0b010000#6 => decodeCop0 (copFmt w) (w.extractLsb' 0 21)
  | 0b010001#6 => decodeCop1 (copFmt w) (w.extractLsb' 0 21)
  | 0b010010#6 => decodeCop2 (copFmt w) w
  | p => decodePrimary p (w.extractLsb' 0 26)

/-! ### Bytes -/

/-- What the byte decoder rejects, by name. -/
inductive DecodeReject where
  /-- R27, R208: fewer than the four bytes of a word are left; the block never sees a partial word (D11). -/
  | truncated
  deriving DecidableEq, Repr

/-- R22: the big-endian word of four bytes, the byte at the lowest offset first and most significant. -/
def wordOfBytes (b0 b1 b2 b3 : Byte) : Word := b0 ++ b1 ++ b2 ++ b3

/-- R22: the four bytes of a word in the order they lie in the buffer. -/
def bytesOfWord (w : Word) : List Byte :=
  [w.extractLsb' 24 8, w.extractLsb' 16 8, w.extractLsb' 8 8, w.extractLsb' 0 8]

/-- R25, R40: the next word of a byte stream and the rest of the stream. -/
def nextWord (bs : List Byte) : Except DecodeReject (Word × List Byte) :=
  match bs with
  | b0 :: b1 :: b2 :: b3 :: rest => .ok (wordOfBytes b0 b1 b2 b3, rest)
  | _ => .error .truncated

/-- The decoder on any bytes: the instruction of the next word and the rest of the stream. Every instruction is one
word of exactly 32 bits (R40). -/
def decodeBytes (bs : List Byte) : Except DecodeReject (Instr × List Byte) :=
  match nextWord bs with
  | .ok (w, rest) => .ok (decode w, rest)
  | .error e => .error e

/-! ### The encoder -/

/-- The word of an instruction, from the formats of R48 and the values of R49 to R54. -/
def encode : Instr → Word
  | .addiu ignored => 0b001001#6 ++ ignored
  | .bne ignored => 0b000101#6 ++ ignored
  | .lui ignored => 0b001111#6 ++ ignored
  | .lw ignored => 0b100011#6 ++ ignored
  | .sw ignored => 0b101011#6 ++ ignored
  | .ori ignored => 0b001101#6 ++ ignored
  | .beq ignored => 0b000100#6 ++ ignored
  | .jal ignored => 0b000011#6 ++ ignored
  | .addi ignored => 0b001000#6 ++ ignored
  | .andi ignored => 0b001100#6 ++ ignored
  | .sltiu ignored => 0b001011#6 ++ ignored
  | .cache ignored => 0b101111#6 ++ ignored
  | .bnel ignored => 0b010101#6 ++ ignored
  | .slti ignored => 0b001010#6 ++ ignored
  | .beql ignored => 0b010100#6 ++ ignored
  | .blezl ignored => 0b010110#6 ++ ignored
  | .sb ignored => 0b101000#6 ++ ignored
  | .lbu ignored => 0b100100#6 ++ ignored
  | .xori ignored => 0b001110#6 ++ ignored
  | .j ignored => 0b000010#6 ++ ignored
  | .lb ignored => 0b100000#6 ++ ignored
  | .lwc1 ignored => 0b110001#6 ++ ignored
  | .lh ignored => 0b100001#6 ++ ignored
  | .sc ignored => 0b111000#6 ++ ignored
  | .scd ignored => 0b111100#6 ++ ignored
  | .lwl ignored => 0b100010#6 ++ ignored
  | .daddi ignored => 0b011000#6 ++ ignored
  | .ll ignored => 0b110000#6 ++ ignored
  | .blez ignored => 0b000110#6 ++ ignored
  | .sd ignored => 0b111111#6 ++ ignored
  | .bgezl hi lo => 0b000001#6 ++ hi ++ 0b00011#5 ++ lo
  | .bgezal hi lo => 0b000001#6 ++ hi ++ 0b10001#5 ++ lo
  | .bltz hi lo => 0b000001#6 ++ hi ++ 0b00000#5 ++ lo
  | .bltzal hi lo => 0b000001#6 ++ hi ++ 0b10000#5 ++ lo
  | .tgei hi lo => 0b000001#6 ++ hi ++ 0b01000#5 ++ lo
  | .sll ignored => 0b000000#6 ++ ignored ++ 0b000000#6
  | .or ignored => 0b000000#6 ++ ignored ++ 0b100101#6
  | .and ignored => 0b000000#6 ++ ignored ++ 0b100100#6
  | .add ignored => 0b000000#6 ++ ignored ++ 0b100000#6
  | .slt ignored => 0b000000#6 ++ ignored ++ 0b101010#6
  | .sltu ignored => 0b000000#6 ++ ignored ++ 0b101011#6
  | .jr ignored => 0b000000#6 ++ ignored ++ 0b001000#6
  | .mflo ignored => 0b000000#6 ++ ignored ++ 0b010010#6
  | .addu ignored => 0b000000#6 ++ ignored ++ 0b100001#6
  | .subu ignored => 0b000000#6 ++ ignored ++ 0b100011#6
  | .srlv ignored => 0b000000#6 ++ ignored ++ 0b000110#6
  | .sllv ignored => 0b000000#6 ++ ignored ++ 0b000100#6
  | .xor ignored => 0b000000#6 ++ ignored ++ 0b100110#6
  | .srl ignored => 0b000000#6 ++ ignored ++ 0b000010#6
  | .multu ignored => 0b000000#6 ++ ignored ++ 0b011001#6
  | .movci ignored => 0b000000#6 ++ ignored ++ 0b000001#6
  | .dsra32 ignored => 0b000000#6 ++ ignored ++ 0b111111#6
  | .mfhi ignored => 0b000000#6 ++ ignored ++ 0b010000#6
  | .sra ignored => 0b000000#6 ++ ignored ++ 0b000011#6
  | .syscall ignored => 0b000000#6 ++ ignored ++ 0b001100#6
  | .sync ignored => 0b000000#6 ++ ignored ++ 0b001111#6
  | .dsll ignored => 0b000000#6 ++ ignored ++ 0b111000#6
  | .dsrl32 ignored => 0b000000#6 ++ ignored ++ 0b111110#6
  | .mfc0 ignored => 0b010000#6 ++ 0b00000#5 ++ ignored
  | .mtc0 ignored => 0b010000#6 ++ 0b00100#5 ++ ignored
  | .mfc0Fallback fmt ignored => 0b010000#6 ++ fmt ++ ignored
  | .mfc1 ignored => 0b010001#6 ++ 0b00000#5 ++ ignored
  | .mfc2 ignored => 0b010010#6 ++ 0b00000#5 ++ ignored
  | .vne ignored => 0b010010#6 ++ 0b10001#5 ++ ignored ++ 0b100010#6
  | .unknown p ignored => p ++ ignored
  | .unknownPrimary p ignored => p ++ ignored
  | .unknownSpecial f ignored => 0b000000#6 ++ ignored ++ f
  | .unknownRegimm rt hi lo => 0b000001#6 ++ hi ++ rt ++ lo
  | .unknownCop1 fmt ignored => 0b010001#6 ++ fmt ++ ignored
  | .unknownCop2 fmt ignored => 0b010010#6 ++ fmt ++ ignored
  | .unknownCop2Vec op ignored => 0b010010#6 ++ 0b10001#5 ++ ignored ++ op

/-- The bytes of an instruction as they lie in the buffer (R22). -/
def encodeBytes (i : Instr) : List Byte := bytesOfWord (encode i)

/-! ### The opcode table's own selection of a row -/

/-- R173: match and mask of the row a format of the COP0 fallback belongs to: six disjoint patterns cover the 30 formats.
The formats 0 and 4 have no fallback row; for them, which no well-formed term carries, it is the exact entry's (R171,
R172). -/
def fallbackRow (fmt : BitVec 5) : Word × Word :=
  match fmt with
  | 0b00001#5 => (0x40200000#32, 0xFFE00000#32)
  | 0b00010#5 | 0b00011#5 => (0x40400000#32, 0xFFC00000#32)
  | 0b00101#5 => (0x40A00000#32, 0xFFE00000#32)
  | 0b00110#5 | 0b00111#5 => (0x40C00000#32, 0xFFC00000#32)
  | 0b00000#5 => (0x40000000#32, 0xFFE00000#32)
  | 0b00100#5 => (0x40800000#32, 0xFFE00000#32)
  | _ => if fmt.toNat < 16 then (0x41000000#32, 0xFF000000#32) else (0x42000000#32, 0xFE000000#32)

/-- spec/opcode_table.json: the mask of the bits that select the row (R48, by format; R173 for the COP0 fallback). -/
def Instr.rowMask : Instr → Word
  | .addiu _ | .bne _ | .lui _ | .lw _ | .sw _ | .ori _ | .beq _ | .jal _ | .addi _ | .andi _ | .sltiu _
  | .cache _ | .bnel _ | .slti _ | .beql _ | .blezl _ | .sb _ | .lbu _ | .xori _ | .j _ | .lb _ | .lwc1 _
  | .lh _ | .sc _ | .scd _ | .lwl _ | .daddi _ | .ll _ | .blez _ | .sd _ | .unknown _ _ | .unknownPrimary _ _ => 0xFC000000#32
  | .bgezl _ _ | .bgezal _ _ | .bltz _ _ | .bltzal _ _ | .tgei _ _ | .unknownRegimm _ _ _ => 0xFC1F0000#32
  | .sll _ | .or _ | .and _ | .add _ | .slt _ | .sltu _ | .jr _ | .mflo _ | .addu _ | .subu _ | .srlv _
  | .sllv _ | .xor _ | .srl _ | .multu _ | .movci _ | .dsra32 _ | .mfhi _ | .sra _ | .syscall _ | .sync _
  | .dsll _ | .dsrl32 _ | .unknownSpecial _ _ => 0xFC00003F#32
  | .mfc0 _ | .mtc0 _ | .mfc1 _ | .mfc2 _ | .unknownCop1 _ _ | .unknownCop2 _ _ => 0xFFE00000#32
  | .mfc0Fallback fmt _ => (fallbackRow fmt).2
  | .vne _ | .unknownCop2Vec _ _ => 0xFFE0003F#32

/-- spec/opcode_table.json: the value of those bits; for a row of a key field, the field shifted into its place. -/
def Instr.rowMatch : Instr → Word
  | .addiu _ => 0x24000000#32
  | .bne _ => 0x14000000#32
  | .lui _ => 0x3C000000#32
  | .lw _ => 0x8C000000#32
  | .sw _ => 0xAC000000#32
  | .ori _ => 0x34000000#32
  | .beq _ => 0x10000000#32
  | .jal _ => 0x0C000000#32
  | .addi _ => 0x20000000#32
  | .andi _ => 0x30000000#32
  | .sltiu _ => 0x2C000000#32
  | .cache _ => 0xBC000000#32
  | .bnel _ => 0x54000000#32
  | .slti _ => 0x28000000#32
  | .beql _ => 0x50000000#32
  | .blezl _ => 0x58000000#32
  | .sb _ => 0xA0000000#32
  | .lbu _ => 0x90000000#32
  | .xori _ => 0x38000000#32
  | .j _ => 0x08000000#32
  | .lb _ => 0x80000000#32
  | .lwc1 _ => 0xC4000000#32
  | .lh _ => 0x84000000#32
  | .sc _ => 0xE0000000#32
  | .scd _ => 0xF0000000#32
  | .lwl _ => 0x88000000#32
  | .daddi _ => 0x60000000#32
  | .ll _ => 0xC0000000#32
  | .blez _ => 0x18000000#32
  | .sd _ => 0xFC000000#32
  | .bgezl _ _ => 0x04030000#32
  | .bgezal _ _ => 0x04110000#32
  | .bltz _ _ => 0x04000000#32
  | .bltzal _ _ => 0x04100000#32
  | .tgei _ _ => 0x04080000#32
  | .sll _ => 0x00000000#32
  | .or _ => 0x00000025#32
  | .and _ => 0x00000024#32
  | .add _ => 0x00000020#32
  | .slt _ => 0x0000002A#32
  | .sltu _ => 0x0000002B#32
  | .jr _ => 0x00000008#32
  | .mflo _ => 0x00000012#32
  | .addu _ => 0x00000021#32
  | .subu _ => 0x00000023#32
  | .srlv _ => 0x00000006#32
  | .sllv _ => 0x00000004#32
  | .xor _ => 0x00000026#32
  | .srl _ => 0x00000002#32
  | .multu _ => 0x00000019#32
  | .movci _ => 0x00000001#32
  | .dsra32 _ => 0x0000003F#32
  | .mfhi _ => 0x00000010#32
  | .sra _ => 0x00000003#32
  | .syscall _ => 0x0000000C#32
  | .sync _ => 0x0000000F#32
  | .dsll _ => 0x00000038#32
  | .dsrl32 _ => 0x0000003E#32
  | .mfc0 _ => 0x40000000#32
  | .mtc0 _ => 0x40800000#32
  | .mfc1 _ => 0x44000000#32
  | .mfc2 _ => 0x48000000#32
  | .vne _ => 0x4A200022#32
  | .mfc0Fallback fmt _ => (fallbackRow fmt).1
  | .unknown p _ => p.setWidth 32 <<< 26
  | .unknownPrimary p _ => p.setWidth 32 <<< 26
  | .unknownSpecial f _ => f.setWidth 32
  | .unknownRegimm rt _ _ => 0x04000000#32 ||| (rt.setWidth 32 <<< 16)
  | .unknownCop1 fmt _ => 0x44000000#32 ||| (fmt.setWidth 32 <<< 21)
  | .unknownCop2 fmt _ => 0x48000000#32 ||| (fmt.setWidth 32 <<< 21)
  | .unknownCop2Vec op _ => 0x4A200000#32 ||| op.setWidth 32

/-! ### The host's entry -/

/-- The 32-bit word the host's row describes: its `nbits` low bits are `w`'s, every bit above is 0. -/
def tableWord (nbits w : Nat) : Word := BitVec.ofNat 32 (w % 2 ^ nbits)

/-- The instruction the decoder reads from the bytes of a table row's word, laid out big-endian as the buffer holds
them (R22). -/
def decodeTableWord (nbits w : Nat) : Option Instr :=
  match decodeBytes (bytesOfWord (tableWord nbits w)) with
  | .ok (i, _) => some i
  | .error _ => none

end Sys2Proof
end

