-- ==== Sys2Proof/Machine/State.lean ====
section
/-! DEFINITION. The machine's state. The block itself has none (spec/10_state.md R10 to R13); `State` holds the present
value on the block's ports (R19) and the environment's data (spec/20_memory.md R21 to R28), which is the only thing that
changes from step to step (log entries 1 and 2). INVENTORY.md lists the fields one by one. -/

namespace Sys2Proof.Machine

/-- R21: the contents of the byte buffer, in canonical form: offsets strictly rising, no byte 0 listed (an offset below
the length that is not listed holds 0, log entry 13). `Memory.wf` in Ops.lean says so. -/
abbrev Memory := List Host.Cell

/-- R222: the environment's fixed order of work: "header fields in ascending offset order, then the 1008 words in
ascending offset order", after which the run has ended (R227). -/
inductive Stage where
  | header | bootcode | complete
  deriving DecidableEq, Repr

/-- R23, R24: the nine fields of the cartridge header. `pc` is a datum of the environment, no program counter (R12).
`imageName` keeps its 20 bytes as they are (log entry 15). -/
structure Header where
  clockRate : Word
  pc : Word
  release : Word
  crc1 : Word
  crc2 : Word
  imageName : List Byte
  manufacturerId : Word
  cartridgeId : BitVec 16
  countryCode : BitVec 16
  deriving DecidableEq, Repr

structure State where
  /-- R19 port `word`, the word to classify (R14) -/
  word : Word
  /-- R19 ports `ok`, `tag`, `err_table`, `err_field`, `word_out`, as one value of the sum type `Result` (R17) -/
  result : DecodeResult
  /-- R21: the byte buffer; nothing writes it (R29) -/
  image : Memory
  /-- R21, R27: how many bytes the buffer holds -/
  imageLen : Nat
  /-- R222: which part of the environment's work is due -/
  stage : Stage
  /-- R28, R30: the byte offset of the stream -/
  pos : Nat
  /-- R24: the header, once it has been read -/
  header : Option Header
  /-- R25: the per-word results collected so far, in offset order -/
  results : List DecodeResult
  deriving DecidableEq, Repr

/-- The environment's two errors (R208, R209); they abort the parse and are propagated to the caller (R210). The block
itself never faults (R211). -/
inductive Fault where
  /-- R208 InsufficientData: raised by the Header Reader when fewer than 64 bytes are available (stage `header`) and by
  the Bootcode Extractor when the stream from 0x40 is shorter than 1008 * 4 bytes (stage `bootcode`). Safe: the spec's
  own end of the run. -/
  | insufficientData (stage : Stage)
  /-- R209 InvalidText: raised by the Header Reader when the 20 bytes at 0x20, carried here as the offending raw value
  (R32), are not valid text. Safe: the spec's own end of the run. -/
  | invalidText (imageName : List Byte)
  deriving DecidableEq, Repr

/-- Refusals. -/
inductive Refusal where
  /-- The host's name for an instruction with no meaning yet; no arm of `exec` raises it. Safe. -/
  | notModelled (mnemonic : String)
  deriving DecidableEq, Repr

/-- What a step answers. -/
abbrev StepOutcome := Host.Outcome State Fault Refusal

/-- The machine with no image loaded and nothing done. The spec gives no reset (R220); the input word 0 is a choice
(log entry 4), `result` is `decode` of it as R220 demands, and the empty buffer stands for "no image yet" (log entry 5). -/
def State.reset : State where
  word := 0x00000000#32
  result := .ok ⟨.SLL, 0x00000000#32⟩
  image := []
  imageLen := 0
  stage := .header
  pos := 0
  header := none
  results := []

end Sys2Proof.Machine
end

