-- ==== Sys2Proof/Machine/Ops.lean ====
section
/-! DEFINITION. The shared operations: the byte buffer (spec/20_memory.md R21) and what the block does with its result
(spec/00_scope.md R7): answer `Ok` with a tag, or raise UnknownOpcode. -/

namespace Sys2Proof.Machine

/-! ### The byte buffer -/

/-- The canonical form: offsets strictly rising, and no entry equal to what an unlisted offset reads as (0). -/
abbrev Memory.wf (m : Memory) : Prop :=
  m.Pairwise (fun x y => x.1 < y.1) ∧ ∀ c ∈ m, c.2 ≠ 0#8

/-- The byte at an offset; an offset that is not listed holds 0 (log entry 13). -/
def Memory.read : Memory → Nat → Byte
  | [], _ => 0#8
  | (k, v) :: m, a => if a = k then v else Memory.read m a

/-- The buffer with the byte at one offset replaced, in canonical form again. The machine itself never writes (R29);
this is for the caller that supplies an image. -/
def Memory.write : Memory → Nat → Byte → Memory
  | [], a, b => if b = 0#8 then [] else [(a, b)]
  | (k, v) :: m, a, b =>
    if a < k then (if b = 0#8 then (k, v) :: m else (a, b) :: (k, v) :: m)
    else if a = k then (if b = 0#8 then m else (a, b) :: m)
    else (k, v) :: Memory.write m a b

/-- The bytes written one after the other from an offset on. -/
def Memory.writeBytes : Memory → Nat → List Byte → Memory
  | m, _, [] => m
  | m, a, b :: bs => Memory.writeBytes (Memory.write m a b) (a + 1) bs

/-- The buffer that holds a list of bytes from an offset on and nothing else. -/
def Memory.ofBytesFrom : Nat → List Byte → Memory
  | _, [] => []
  | a, b :: bs => if b = 0#8 then Memory.ofBytesFrom (a + 1) bs else (a, b) :: Memory.ofBytesFrom (a + 1) bs

/-- The buffer of a ROM image: byte number `i` of the list at offset `i` (R21). -/
def Memory.ofBytes (bs : List Byte) : Memory := Memory.ofBytesFrom 0 bs

/-! ### The block -/

/-- R14, R19: a word put on the input port. -/
def State.present (w : Word) (s : State) : State := { s with word := w }

/-- R7: `result <- Ok(T, word)`: the result of this classification is the success value that carries the tag and the
input word. Nothing else is written (R70). -/
def State.succeed (tag : OpCode) (s : State) : StepOutcome :=
  .next { s with result := .ok ⟨tag, s.word⟩ }

/-- R7, R205: `raise UnknownOpcode(table, field_value, word)`, the block's one exceptional outcome (R200). It "means
exactly the result is this Err value": it saves no state, changes no mode and transfers control nowhere (R205), so the
machine goes on, and there is no return from it (R206). -/
def State.raiseUnknownOpcode (table : TableName) (fieldValue : Nat) (s : State) : StepOutcome :=
  .next { s with result := .error ⟨table, fieldValue, s.word⟩ }

end Sys2Proof.Machine
end

