-- ==== Sys2Proof/Machine/Coprocessor.lean ====
section
/-! DEFINITION. The coprocessor tables: COP0 with its lenient fallback (spec/44_cop0.md R170 to R173), COP1 (spec/45_cop1.md R176 to
R178), COP2 and COP2-VEC (spec/46_cop2.md R180 to R185). No coprocessor register is read or written (R213). -/

namespace Sys2Proof.Machine

/-- R171: `result <- Ok(Instruction(opcode: MFC0, word))`, the exact entry. -/
def execMfc0 (_ignored : BitVec 21) (s : State) : StepOutcome := s.succeed .MFC0

/-- R172: `result <- Ok(Instruction(opcode: MTC0, word))`. -/
def execMtc0 (_ignored : BitVec 21) (s : State) : StepOutcome := s.succeed .MTC0

/-- R173: the lenient fallback: "must return `Ok` with MFC0 here, not an error and not a separate tag". -/
def execMfc0Fallback (_fmt : BitVec 5) (_ignored : BitVec 21) (s : State) : StepOutcome := s.succeed .MFC0

/-- R177: `result <- Ok(Instruction(opcode: MFC1, word))`. -/
def execMfc1 (_ignored : BitVec 21) (s : State) : StepOutcome := s.succeed .MFC1

/-- R178: `raise UnknownOpcode(COP1, c, word)`, with the 5-bit format. -/
def execUnknownCop1 (fmt : BitVec 5) (_ignored : BitVec 21) (s : State) : StepOutcome :=
  s.raiseUnknownOpcode .COP1 fmt.toNat

/-- R181: `result <- Ok(Instruction(opcode: MFC2, word))`. -/
def execMfc2 (_ignored : BitVec 21) (s : State) : StepOutcome := s.succeed .MFC2

/-- R183: `result <- Ok(Instruction(opcode: VNE, word))`; no vector lane is compared. -/
def execVne (_ignored : BitVec 15) (s : State) : StepOutcome := s.succeed .VNE

/-- R184: `raise UnknownOpcode(COP2VEC, v, word)`, with the 6-bit vector op. -/
def execUnknownCop2Vec (op : BitVec 6) (_ignored : BitVec 15) (s : State) : StepOutcome :=
  s.raiseUnknownOpcode .COP2VEC op.toNat

/-- R185: `raise UnknownOpcode(COP2, c, word)`, with the 5-bit format. -/
def execUnknownCop2 (fmt : BitVec 5) (_ignored : BitVec 21) (s : State) : StepOutcome :=
  s.raiseUnknownOpcode .COP2 fmt.toNat

end Sys2Proof.Machine
end

