-- ==== Sys2Proof/Machine/Direct.lean ====
section
/-! DEFINITION. Direct primary mnemonics (spec/41_primary_direct.md R90 to R120): the primary opcode alone selects the tag; bits
25:0 are ignored, nothing is executed, and there is no exception. -/

namespace Sys2Proof.Machine

/-- R91: `result <- Ok(Instruction(opcode: ADDIU, word))`. -/
def execAddiu (_ignored : BitVec 26) (s : State) : StepOutcome := s.succeed .ADDIU

/-- R92: `result <- Ok(Instruction(opcode: BNE, word))`. -/
def execBne (_ignored : BitVec 26) (s : State) : StepOutcome := s.succeed .BNE

/-- R93: `result <- Ok(Instruction(opcode: LUI, word))`. -/
def execLui (_ignored : BitVec 26) (s : State) : StepOutcome := s.succeed .LUI

/-- R94: `result <- Ok(Instruction(opcode: LW, word))`. -/
def execLw (_ignored : BitVec 26) (s : State) : StepOutcome := s.succeed .LW

/-- R95: `result <- Ok(Instruction(opcode: SW, word))`. -/
def execSw (_ignored : BitVec 26) (s : State) : StepOutcome := s.succeed .SW

/-- R96: `result <- Ok(Instruction(opcode: ORI, word))`. -/
def execOri (_ignored : BitVec 26) (s : State) : StepOutcome := s.succeed .ORI

/-- R97: `result <- Ok(Instruction(opcode: BEQ, word))`. -/
def execBeq (_ignored : BitVec 26) (s : State) : StepOutcome := s.succeed .BEQ

/-- R98: `result <- Ok(Instruction(opcode: JAL, word))`. -/
def execJal (_ignored : BitVec 26) (s : State) : StepOutcome := s.succeed .JAL

/-- R99: `result <- Ok(Instruction(opcode: ADDI, word))`. -/
def execAddi (_ignored : BitVec 26) (s : State) : StepOutcome := s.succeed .ADDI

/-- R100: `result <- Ok(Instruction(opcode: ANDI, word))`. -/
def execAndi (_ignored : BitVec 26) (s : State) : StepOutcome := s.succeed .ANDI

/-- R101: `result <- Ok(Instruction(opcode: SLTIU, word))`. -/
def execSltiu (_ignored : BitVec 26) (s : State) : StepOutcome := s.succeed .SLTIU

/-- R102: `result <- Ok(Instruction(opcode: CACHE, word))`. -/
def execCache (_ignored : BitVec 26) (s : State) : StepOutcome := s.succeed .CACHE

/-- R103: `result <- Ok(Instruction(opcode: BNEL, word))`. -/
def execBnel (_ignored : BitVec 26) (s : State) : StepOutcome := s.succeed .BNEL

/-- R104: `result <- Ok(Instruction(opcode: SLTI, word))`. -/
def execSlti (_ignored : BitVec 26) (s : State) : StepOutcome := s.succeed .SLTI

/-- R105: `result <- Ok(Instruction(opcode: BEQL, word))`. -/
def execBeql (_ignored : BitVec 26) (s : State) : StepOutcome := s.succeed .BEQL

/-- R106: `result <- Ok(Instruction(opcode: BLEZL, word))`. -/
def execBlezl (_ignored : BitVec 26) (s : State) : StepOutcome := s.succeed .BLEZL

/-- R107: `result <- Ok(Instruction(opcode: SB, word))`. -/
def execSb (_ignored : BitVec 26) (s : State) : StepOutcome := s.succeed .SB

/-- R108: `result <- Ok(Instruction(opcode: LBU, word))`. -/
def execLbu (_ignored : BitVec 26) (s : State) : StepOutcome := s.succeed .LBU

/-- R109: `result <- Ok(Instruction(opcode: XORI, word))`. -/
def execXori (_ignored : BitVec 26) (s : State) : StepOutcome := s.succeed .XORI

/-- R110: `result <- Ok(Instruction(opcode: J, word))`. -/
def execJ (_ignored : BitVec 26) (s : State) : StepOutcome := s.succeed .J

/-- R111: `result <- Ok(Instruction(opcode: LB, word))`. -/
def execLb (_ignored : BitVec 26) (s : State) : StepOutcome := s.succeed .LB

/-- R112: `result <- Ok(Instruction(opcode: LWC1, word))`. -/
def execLwc1 (_ignored : BitVec 26) (s : State) : StepOutcome := s.succeed .LWC1

/-- R113: `result <- Ok(Instruction(opcode: LH, word))`. -/
def execLh (_ignored : BitVec 26) (s : State) : StepOutcome := s.succeed .LH

/-- R114: `result <- Ok(Instruction(opcode: SC, word))`. -/
def execSc (_ignored : BitVec 26) (s : State) : StepOutcome := s.succeed .SC

/-- R115: `result <- Ok(Instruction(opcode: SCD, word))`. -/
def execScd (_ignored : BitVec 26) (s : State) : StepOutcome := s.succeed .SCD

/-- R116: `result <- Ok(Instruction(opcode: LWL, word))`. -/
def execLwl (_ignored : BitVec 26) (s : State) : StepOutcome := s.succeed .LWL

/-- R117: `result <- Ok(Instruction(opcode: DADDI, word))`. -/
def execDaddi (_ignored : BitVec 26) (s : State) : StepOutcome := s.succeed .DADDI

/-- R118: `result <- Ok(Instruction(opcode: LL, word))`. -/
def execLl (_ignored : BitVec 26) (s : State) : StepOutcome := s.succeed .LL

/-- R119: `result <- Ok(Instruction(opcode: BLEZ, word))`. -/
def execBlez (_ignored : BitVec 26) (s : State) : StepOutcome := s.succeed .BLEZ

/-- R120: `result <- Ok(Instruction(opcode: SD, word))`. -/
def execSd (_ignored : BitVec 26) (s : State) : StepOutcome := s.succeed .SD

end Sys2Proof.Machine
end

