-- ==== Sys2Proof/Machine/Regimm.lean ====
section
/-! DEFINITION. The REGIMM table (spec/42_regimm.md R130 to R136): no condition is evaluated, no target computed, no link written and
no trap raised (R213). -/

namespace Sys2Proof.Machine

/-- R131: `result <- Ok(Instruction(opcode: BGEZL, word))`. -/
def execBgezl (_hi : BitVec 5) (_lo : BitVec 16) (s : State) : StepOutcome := s.succeed .BGEZL

/-- R132: `result <- Ok(Instruction(opcode: BGEZAL, word))`. -/
def execBgezal (_hi : BitVec 5) (_lo : BitVec 16) (s : State) : StepOutcome := s.succeed .BGEZAL

/-- R133: `result <- Ok(Instruction(opcode: BLTZ, word))`. -/
def execBltz (_hi : BitVec 5) (_lo : BitVec 16) (s : State) : StepOutcome := s.succeed .BLTZ

/-- R134: `result <- Ok(Instruction(opcode: BLTZAL, word))`. -/
def execBltzal (_hi : BitVec 5) (_lo : BitVec 16) (s : State) : StepOutcome := s.succeed .BLTZAL

/-- R135: `result <- Ok(Instruction(opcode: TGEI, word))`. -/
def execTgei (_hi : BitVec 5) (_lo : BitVec 16) (s : State) : StepOutcome := s.succeed .TGEI

/-- R136: `raise UnknownOpcode(REGIMM, r, word)`, with the 5-bit rt value. -/
def execUnknownRegimm (rt _hi : BitVec 5) (_lo : BitVec 16) (s : State) : StepOutcome :=
  s.raiseUnknownOpcode .REGIMM rt.toNat

end Sys2Proof.Machine
end

