-- ==== Sys2Proof/Machine/Special.lean ====
section
/-! DEFINITION. The SPECIAL table (spec/43_special.md R140 to R164): funct selects the tag; no operation is performed, no system call
raised, nothing ordered (R213). -/

namespace Sys2Proof.Machine

/-- R141: `result <- Ok(Instruction(opcode: SLL, word))`. -/
def execSll (_ignored : BitVec 20) (s : State) : StepOutcome := s.succeed .SLL

/-- R142: `result <- Ok(Instruction(opcode: OR, word))`. -/
def execOr (_ignored : BitVec 20) (s : State) : StepOutcome := s.succeed .OR

/-- R143: `result <- Ok(Instruction(opcode: AND, word))`. -/
def execAnd (_ignored : BitVec 20) (s : State) : StepOutcome := s.succeed .AND

/-- R144: `result <- Ok(Instruction(opcode: ADD, word))`. -/
def execAdd (_ignored : BitVec 20) (s : State) : StepOutcome := s.succeed .ADD

/-- R145: `result <- Ok(Instruction(opcode: SLT, word))`. -/
def execSlt (_ignored : BitVec 20) (s : State) : StepOutcome := s.succeed .SLT

/-- R146: `result <- Ok(Instruction(opcode: SLTU, word))`. -/
def execSltu (_ignored : BitVec 20) (s : State) : StepOutcome := s.succeed .SLTU

/-- R147: `result <- Ok(Instruction(opcode: JR, word))`. -/
def execJr (_ignored : BitVec 20) (s : State) : StepOutcome := s.succeed .JR

/-- R148: `result <- Ok(Instruction(opcode: MFLO, word))`. -/
def execMflo (_ignored : BitVec 20) (s : State) : StepOutcome := s.succeed .MFLO

/-- R149: `result <- Ok(Instruction(opcode: ADDU, word))`. -/
def execAddu (_ignored : BitVec 20) (s : State) : StepOutcome := s.succeed .ADDU

/-- R150: `result <- Ok(Instruction(opcode: SUBU, word))`. -/
def execSubu (_ignored : BitVec 20) (s : State) : StepOutcome := s.succeed .SUBU

/-- R151: `result <- Ok(Instruction(opcode: SRLV, word))`. -/
def execSrlv (_ignored : BitVec 20) (s : State) : StepOutcome := s.succeed .SRLV

/-- R152: `result <- Ok(Instruction(opcode: SLLV, word))`. -/
def execSllv (_ignored : BitVec 20) (s : State) : StepOutcome := s.succeed .SLLV

/-- R153: `result <- Ok(Instruction(opcode: XOR, word))`. -/
def execXor (_ignored : BitVec 20) (s : State) : StepOutcome := s.succeed .XOR

/-- R154: `result <- Ok(Instruction(opcode: SRL, word))`. -/
def execSrl (_ignored : BitVec 20) (s : State) : StepOutcome := s.succeed .SRL

/-- R155: `result <- Ok(Instruction(opcode: MULTU, word))`. -/
def execMultu (_ignored : BitVec 20) (s : State) : StepOutcome := s.succeed .MULTU

/-- R156: `result <- Ok(Instruction(opcode: MOVCI, word))`. -/
def execMovci (_ignored : BitVec 20) (s : State) : StepOutcome := s.succeed .MOVCI

/-- R157: `result <- Ok(Instruction(opcode: DSRA32, word))`. -/
def execDsra32 (_ignored : BitVec 20) (s : State) : StepOutcome := s.succeed .DSRA32

/-- R158: `result <- Ok(Instruction(opcode: MFHI, word))`. -/
def execMfhi (_ignored : BitVec 20) (s : State) : StepOutcome := s.succeed .MFHI

/-- R159: `result <- Ok(Instruction(opcode: SRA, word))`. -/
def execSra (_ignored : BitVec 20) (s : State) : StepOutcome := s.succeed .SRA

/-- R160: `result <- Ok(Instruction(opcode: SYSCALL, word))`. -/
def execSyscall (_ignored : BitVec 20) (s : State) : StepOutcome := s.succeed .SYSCALL

/-- R161: `result <- Ok(Instruction(opcode: SYNC, word))`. -/
def execSync (_ignored : BitVec 20) (s : State) : StepOutcome := s.succeed .SYNC

/-- R162: `result <- Ok(Instruction(opcode: DSLL, word))`. -/
def execDsll (_ignored : BitVec 20) (s : State) : StepOutcome := s.succeed .DSLL

/-- R163: `result <- Ok(Instruction(opcode: DSRL32, word))`. -/
def execDsrl32 (_ignored : BitVec 20) (s : State) : StepOutcome := s.succeed .DSRL32

/-- R164: `raise UnknownOpcode(SPECIAL, f, word)`, with the 6-bit funct value. -/
def execUnknownSpecial (funct : BitVec 6) (_ignored : BitVec 20) (s : State) : StepOutcome :=
  s.raiseUnknownOpcode .SPECIAL funct.toNat

end Sys2Proof.Machine
end

