-- ==== Sys2Proof/Machine/Unknown.lean ====
section
/-! DEFINITION. Dispatch steps 8 and 9 (spec/47_unknown_and_errors.md): the tag UNKNOWN, a success (R190), and the PRIMARY error, a
failure (R191). They must not be confused. -/

namespace Sys2Proof.Machine

/-- R190: `result <- Ok(Instruction(opcode: UNKNOWN, word))`: "recognized-but-unimplemented", "not an error". -/
def execUnknown (_primary : BitVec 6) (_ignored : BitVec 26) (s : State) : StepOutcome := s.succeed .UNKNOWN

/-- R191: `raise UnknownOpcode(PRIMARY, p, word)`, with the 6-bit primary value, not shifted. -/
def execUnknownPrimary (primary : BitVec 6) (_ignored : BitVec 26) (s : State) : StepOutcome :=
  s.raiseUnknownOpcode .PRIMARY primary.toNat

end Sys2Proof.Machine
end

