-- ==== Sys2Proof/Machine/Dispatch.lean ====
section
/-! DEFINITION. One arm for each constructor of `Instr`, each one direct call of its meaning. -/

namespace Sys2Proof.Machine

def exec (i : Instr) (s : State) : Host.Outcome State Fault Refusal :=
  match i with
  | .addiu ignored => Sys2Proof.Machine.execAddiu ignored s
  | .bne ignored => Sys2Proof.Machine.execBne ignored s
  | .lui ignored => Sys2Proof.Machine.execLui ignored s
  | .lw ignored => Sys2Proof.Machine.execLw ignored s
  | .sw ignored => Sys2Proof.Machine.execSw ignored s
  | .ori ignored => Sys2Proof.Machine.execOri ignored s
  | .beq ignored => Sys2Proof.Machine.execBeq ignored s
  | .jal ignored => Sys2Proof.Machine.execJal ignored s
  | .addi ignored => Sys2Proof.Machine.execAddi ignored s
  | .andi ignored => Sys2Proof.Machine.execAndi ignored s
  | .sltiu ignored => Sys2Proof.Machine.execSltiu ignored s
  | .cache ignored => Sys2Proof.Machine.execCache ignored s
  | .bnel ignored => Sys2Proof.Machine.execBnel ignored s
  | .slti ignored => Sys2Proof.Machine.execSlti ignored s
  | .beql ignored => Sys2Proof.Machine.execBeql ignored s
  | .blezl ignored => Sys2Proof.Machine.execBlezl ignored s
  | .sb ignored => Sys2Proof.Machine.execSb ignored s
  | .lbu ignored => Sys2Proof.Machine.execLbu ignored s
  | .xori ignored => Sys2Proof.Machine.execXori ignored s
  | .j ignored => Sys2Proof.Machine.execJ ignored s
  | .lb ignored => Sys2Proof.Machine.execLb ignored s
  | .lwc1 ignored => Sys2Proof.Machine.execLwc1 ignored s
  | .lh ignored => Sys2Proof.Machine.execLh ignored s
  | .sc ignored => Sys2Proof.Machine.execSc ignored s
  | .scd ignored => Sys2Proof.Machine.execScd ignored s
  | .lwl ignored => Sys2Proof.Machine.execLwl ignored s
  | .daddi ignored => Sys2Proof.Machine.execDaddi ignored s
  | .ll ignored => Sys2Proof.Machine.execLl ignored s
  | .blez ignored => Sys2Proof.Machine.execBlez ignored s
  | .sd ignored => Sys2Proof.Machine.execSd ignored s
  | .bgezl hi lo => Sys2Proof.Machine.execBgezl hi lo s
  | .bgezal hi lo => Sys2Proof.Machine.execBgezal hi lo s
  | .bltz hi lo => Sys2Proof.Machine.execBltz hi lo s
  | .bltzal hi lo => Sys2Proof.Machine.execBltzal hi lo s
  | .tgei hi lo => Sys2Proof.Machine.execTgei hi lo s
  | .sll ignored => Sys2Proof.Machine.execSll ignored s
  | .or ignored => Sys2Proof.Machine.execOr ignored s
  | .and ignored => Sys2Proof.Machine.execAnd ignored s
  | .add ignored => Sys2Proof.Machine.execAdd ignored s
  | .slt ignored => Sys2Proof.Machine.execSlt ignored s
  | .sltu ignored => Sys2Proof.Machine.execSltu ignored s
  | .jr ignored => Sys2Proof.Machine.execJr ignored s
  | .mflo ignored => Sys2Proof.Machine.execMflo ignored s
  | .addu ignored => Sys2Proof.Machine.execAddu ignored s
  | .subu ignored => Sys2Proof.Machine.execSubu ignored s
  | .srlv ignored => Sys2Proof.Machine.execSrlv ignored s
  | .sllv ignored => Sys2Proof.Machine.execSllv ignored s
  | .xor ignored => Sys2Proof.Machine.execXor ignored s
  | .srl ignored => Sys2Proof.Machine.execSrl ignored s
  | .multu ignored => Sys2Proof.Machine.execMultu ignored s
  | .movci ignored => Sys2Proof.Machine.execMovci ignored s
  | .dsra32 ignored => Sys2Proof.Machine.execDsra32 ignored s
  | .mfhi ignored => Sys2Proof.Machine.execMfhi ignored s
  | .sra ignored => Sys2Proof.Machine.execSra ignored s
  | .syscall ignored => Sys2Proof.Machine.execSyscall ignored s
  | .sync ignored => Sys2Proof.Machine.execSync ignored s
  | .dsll ignored => Sys2Proof.Machine.execDsll ignored s
  | .dsrl32 ignored => Sys2Proof.Machine.execDsrl32 ignored s
  | .mfc0 ignored => Sys2Proof.Machine.execMfc0 ignored s
  | .mtc0 ignored => Sys2Proof.Machine.execMtc0 ignored s
  | .mfc0Fallback fmt ignored => Sys2Proof.Machine.execMfc0Fallback fmt ignored s
  | .mfc1 ignored => Sys2Proof.Machine.execMfc1 ignored s
  | .mfc2 ignored => Sys2Proof.Machine.execMfc2 ignored s
  | .vne ignored => Sys2Proof.Machine.execVne ignored s
  | .unknown primary ignored => Sys2Proof.Machine.execUnknown primary ignored s
  | .unknownPrimary primary ignored => Sys2Proof.Machine.execUnknownPrimary primary ignored s
  | .unknownSpecial funct ignored => Sys2Proof.Machine.execUnknownSpecial funct ignored s
  | .unknownRegimm rt hi lo => Sys2Proof.Machine.execUnknownRegimm rt hi lo s
  | .unknownCop1 fmt ignored => Sys2Proof.Machine.execUnknownCop1 fmt ignored s
  | .unknownCop2 fmt ignored => Sys2Proof.Machine.execUnknownCop2 fmt ignored s
  | .unknownCop2Vec op ignored => Sys2Proof.Machine.execUnknownCop2Vec op ignored s

end Sys2Proof.Machine
end

