-- ==== Sys2Proof/Machine/Operands.lean ====
section
/-! DEFINITION. Operand forms. The block extracts no operand (spec/30_encoding.md R47); the only data forms of the spec
are the fields the environment reads from its buffer, all big-endian (spec/20_memory.md R22, R30): u32, u16 and text. -/

namespace Sys2Proof.Machine

/-- The `n` bytes from an offset on, in ascending offset order (R28). -/
def Memory.bytes (m : Memory) (off n : Nat) : List Byte :=
  (List.range n).map fun k => m.read (off + k)

/-- R22: the unsigned value of bytes, the first the most significant. -/
def bigEndian : List Byte → Nat
  | [] => 0
  | b :: bs => b.toNat * 256 ^ bs.length + bigEndian bs

/-- R7, R22: `MemRead(off, n)`, "the big-endian unsigned value of the n bytes at offsets off to off + n - 1". -/
def Memory.memRead (m : Memory) (off n : Nat) : Nat := bigEndian (m.bytes off n)

/-- R22: a 4-byte field (u32) or a bootcode word. -/
def Memory.wordAt (m : Memory) (off : Nat) : Word :=
  wordOfBytes (m.read off) (m.read (off + 1)) (m.read (off + 2)) (m.read (off + 3))

/-- R22: a 2-byte field (u16), "buf[off] * 2^8 + buf[off+1]". -/
def Memory.halfAt (m : Memory) (off : Nat) : BitVec 16 :=
  m.read off ++ m.read (off + 1)

/-- R23: the byte offset of bootcode word number `i`. -/
def wordOffset (i : Nat) : Nat := Config.bootcodeOffset + 4 * i

end Sys2Proof.Machine
end

