-- ==== Sys2Proof/Machine/Flags.lean ====
section
/-! DEFINITION. Flags. The block has no flag and no condition code (spec/10_state.md R13); its one-bit output is `ok`.
This file is the wire-level view of the result (R19): one value for each port, with the outputs that are not meaningful
left free (spec/92_eei_decisions.md D8, log entry 6), and the same with binary codes on the enumeration ports (D5). -/

namespace Sys2Proof.Machine

/-- R19: the ports of the block. `errField` is `field_value` zero-extended to 6 bits. -/
structure Ports where
  word : Word
  ok : Bool
  tag : OpCode
  errTable : TableName
  errField : BitVec 6
  wordOut : Word
  deriving DecidableEq, Repr

/-- R19: the wires that carry a result. `tag` is meaningful only when `ok = 1`, `err_table` and `err_field` only when
`ok = 0`; a port that is not meaningful holds a free value. -/
def portsOf (w : Word) : DecodeResult → Ports
  | .ok i => ⟨w, true, i.opcode, Config.idleErrTable w, Config.idleErrField w, i.word⟩
  | .error e => ⟨w, false, Config.idleTag w, e.table, BitVec.ofNat 6 e.fieldValue, e.word⟩

/-- R19: the ports in a state. -/
def State.ports (s : State) : Ports := portsOf s.word s.result

/-- R5, D5: the ports with TAG_ENC and TABLE_ENC applied. -/
structure EncodedPorts (tagBits tableBits : Nat) where
  word : Word
  ok : Bool
  tag : BitVec tagBits
  errTable : BitVec tableBits
  errField : BitVec 6
  wordOut : Word
  deriving DecidableEq, Repr

/-- R19, D5: the wires, with any injective codes on the enumeration ports. Wires that are not meaningful carry any value
of their width, which need not be a code (D8). -/
def Ports.encode {tagBits tableBits : Nat} (c : PortCodes tagBits tableBits) (p : Ports) :
    EncodedPorts tagBits tableBits where
  word := p.word
  ok := p.ok
  tag := if p.ok then c.tagEnc p.tag else Config.idleTagBits tagBits p.word
  errTable := if p.ok then Config.idleTableBits tableBits p.word else c.tableEnc p.errTable
  errField := p.errField
  wordOut := p.wordOut

/-- D5: the suggested default code of a tag, "the ordinal of the tag in the listing order" of R15. -/
def suggestedTagEnc (t : OpCode) : BitVec 7 := BitVec.ofNat 7 (OpCode.all.idxOf t)

/-- D5: the suggested default code of a table name, the order of the source's error list. -/
def suggestedTableEnc : TableName → BitVec 3
  | .PRIMARY => 0#3 | .SPECIAL => 1#3 | .REGIMM => 2#3 | .COP1 => 3#3 | .COP2 => 4#3 | .COP2VEC => 5#3

end Sys2Proof.Machine
end

