-- ==== Sys2Proof/Machine/Environment.lean ====
section
/-! DEFINITION. The environment of the block (spec/00_scope.md R3): the Header Reader (spec/20_memory.md R24), the
Bootcode Extractor (R25) and what the caller supplies and receives (R21, R32). Step.lean only calls these. -/

namespace Sys2Proof.Machine

/-! ### Header Reader -/

/-- R23, R24: the nine header fields at their offsets, all big-endian. -/
def headerOf (m : Memory) : Header where
  clockRate := m.wordAt 0x04
  pc := m.wordAt 0x08
  release := m.wordAt 0x0C
  crc1 := m.wordAt 0x10
  crc2 := m.wordAt 0x14
  imageName := m.bytes 0x20 20
  manufacturerId := m.wordAt 0x38
  cartridgeId := m.halfAt 0x3C
  countryCode := m.halfAt 0x3E

/-- R24: the Header Reader. It "fails with a length error if fewer than 64 bytes are available" (R208), before any field
is looked at (log entry 8), with InvalidText if the name is not valid text (R209, log entry 7), and else hands the
remaining byte range to the Bootcode Extractor. One step (log entry 10). -/
def State.readHeader (s : State) : StepOutcome :=
  if s.imageLen < Config.headerBytes then .fault (.insufficientData .header)
  else if Config.textValid (headerOf s.image).imageName then
    .next { s with stage := .bootcode, pos := Config.bootcodeOffset, header := some (headerOf s.image) }
  else .fault (.invalidText (headerOf s.image).imageName)

/-! ### Bootcode Extractor -/

/-- The bytes the Extractor may still read, up to the four of a word: from the stream position to the end of the buffer,
and never at or beyond offset 0x1000 (R23). -/
def State.streamBytes (s : State) : List Byte :=
  s.image.bytes s.pos (min 4 (min s.imageLen Config.bootBlockBytes - s.pos))

/-- R25, R208: the next word of the stream. The Extractor "fails hard only if the byte stream is shorter than 1008×4
bytes" from offset 0x40; the buffer never changes, so the test gives the same answer at every word (log entry 17). -/
def State.fetchWord (s : State) : Except Fault Word :=
  if s.imageLen < Config.bootBlockBytes then .error (.insufficientData .bootcode)
  else match nextWord s.streamBytes with
    | .ok (w, _) => .ok w
    | .error .truncated => .error (.insufficientData .bootcode)

/-- R25: the block's result is collected, success or failure alike (R210), and the stream moves past the word; after the
last word of the boot block the run has ended (R227). -/
def State.collect (s : State) : State :=
  { s with
    results := s.results ++ [s.result]
    pos := s.pos + 4
    stage := if Config.bootBlockBytes ≤ s.pos + 4 then .complete else .bootcode }

/-- R25: what the Extractor makes of the block's answer. -/
def collectOutcome : StepOutcome → StepOutcome
  | .next s => .next s.collect
  | .fault f => .fault f
  | .refused r => .refused r

/-! ### What the caller supplies and receives -/

/-- R21: the machine with a ROM image supplied by its caller and nothing done yet. -/
def State.load (bs : List Byte) : State :=
  { State.reset with image := Memory.ofBytes bs, imageLen := bs.length }

/-- R28, R201: each result with the offset of its word, so that a failure "is attributable to its original offset". -/
def State.report (s : State) : List (Nat × DecodeResult) :=
  (List.range s.results.length).zipWith (fun i r => (wordOffset i, r)) s.results

/-- R25, R32: "which words failed and why": the failures among the results, with their offsets. -/
def State.failures (s : State) : List (Nat × DecodeError) :=
  s.report.filterMap fun p =>
    match p.2 with
    | .ok _ => none
    | .error e => some (p.1, e)

/-- R32: "a fully populated header+bootcode value", once the run has ended. -/
def State.output (s : State) : Option (Header × List DecodeResult) :=
  match s.stage, s.header with
  | .complete, some h => some (h, s.results)
  | _, _ => none

/-! ### The host's entry -/

/-- The offset at which the Extractor reads its next word: the stream position if a whole word is left there, else the
first word of the bootcode. -/
def State.fetchOffset (s : State) : Nat :=
  if s.stage = .bootcode ∧ s.pos + 4 ≤ Config.bootBlockBytes then s.pos else Config.bootcodeOffset

/-- The machine with a word placed where the Extractor reads its next one: the word's bytes big-endian in the buffer
(R22), the buffer long enough for a boot block (R25), the stream at that word. -/
def State.placeWord (s : State) (w : Word) : State :=
  { s with
    image := s.image.writeBytes s.fetchOffset (bytesOfWord w)
    imageLen := max s.imageLen Config.bootBlockBytes
    stage := .bootcode
    pos := s.fetchOffset }

end Sys2Proof.Machine
end

