-- ==== Sys2Proof/Machine/Step.lean ====
section
/-! DEFINITION. One step of the machine. The block's step is one evaluation on one word (spec/00_scope.md R8); the
environment reads the header once and then hands the block one word a step, in ascending offset order
(spec/20_memory.md R24, R25, R28). -/

namespace Sys2Proof.Machine

/-- R8: one evaluation of the block: a word is on the input port, and the outputs are its classification. Any word from
any origin may be given (R26). -/
def evaluate (w : Word) (s : State) : Host.Outcome State Fault Refusal :=
  exec (decode w) (s.present w)

/-- R222, R227: header, then the 1008 words; a run that has ended stays as it is (log entry 9). -/
def step (s : State) : Host.Outcome State Fault Refusal :=
  match s.stage with
  | .header => s.readHeader
  | .bootcode =>
    match s.fetchWord with
    | .ok w => collectOutcome (evaluate w s)
    | .error f => .fault f
  | .complete => .next s

/-- The host's entry: the word of a table row placed where the next step reads it (log entry 5). -/
def State.withFetchWord (s : State) (nbits w : Nat) : State := s.placeWord (tableWord nbits w)

end Sys2Proof.Machine
end

