-- ==== Sys2Proof/Safety.lean ====
section
/-! DEFINITION. The terms the claims are stated in: what a good state is, what a safe run is, and what a rule of one tag
or of one failing key says of the decoder, the classifier and the machine at once. -/

namespace Sys2Proof.Machine

/-- The per-word results a buffer has for its first `n` bootcode words, in offset order (R25). -/
def expectedResults (m : Memory) (n : Nat) : List DecodeResult :=
  (List.range n).map fun i => decodeWord (m.wordAt (wordOffset i))

/-- What the environment has done by the time it is in a stage (R222, R24, R25, R227). -/
def State.StageOk (s : State) : Prop :=
  match s.stage with
  | .header => s.pos = 0 ∧ s.header = none ∧ s.results = []
  | .bootcode =>
    s.pos = wordOffset s.results.length ∧ s.results.length < Config.bootcodeWords ∧
      s.header = some (headerOf s.image) ∧ Config.headerBytes ≤ s.imageLen ∧
      (s.results = [] ∨ Config.bootBlockBytes ≤ s.imageLen)
  | .complete =>
    s.pos = Config.bootBlockBytes ∧ s.results.length = Config.bootcodeWords ∧
      s.header = some (headerOf s.image) ∧ Config.bootBlockBytes ≤ s.imageLen

/-- The invariant of the machine: the buffer is in canonical form within its length (R21); the outputs are the
classification of the input word, as of a combinational block (R10, R220); every collected result is the classification
of its own word of the buffer, in offset order (R25, R28); and the environment is where its stage says. -/
structure State.Inv (s : State) : Prop where
  image_wf : s.image.wf
  image_bound : ∀ c ∈ s.image, c.1 < s.imageLen
  combinational : s.result = decodeWord s.word
  results_eq : s.results = expectedResults s.image s.results.length
  stage_ok : s.StageOk

/-- A safe run from a state: no step of it faults or is refused. -/
def State.RunsSafely (s : State) : Prop := ∀ k, ∃ t, Host.Core.run Sys2Proof.core k s = .next t

/-- A tag rule of format P (R90 and the rule of the mnemonic): which words, which constructor, which result; `lo` and `hi`
are the smallest and the largest word; and the instruction's effect, which is the result and nothing else. -/
def DirectRule (tag : OpCode) (code : BitVec 6) (mk : BitVec 26 → Instr) (lo hi : Word) : Prop :=
  (∀ w, primary w = code → decode w = mk (w.extractLsb' 0 26)) ∧
  (∀ w, decodeWord w = .ok ⟨tag, w⟩ ↔ primary w = code) ∧
  (∀ w, primary w = code ↔ lo ≤ w ∧ w ≤ hi) ∧
  (∀ ignored s, exec (mk ignored) s = .next { s with result := .ok ⟨tag, s.word⟩ })

/-- A tag rule of format S (R140 and the rule of the mnemonic): the words are exactly `code + 64 * k`, `k` from 0 to
2^20 - 1. -/
def SpecialRule (tag : OpCode) (code : BitVec 6) (mk : BitVec 20 → Instr) : Prop :=
  (∀ w, primary w = 0b000000#6 → funct w = code → decode w = mk (w.extractLsb' 6 20)) ∧
  (∀ w, decodeWord w = .ok ⟨tag, w⟩ ↔ primary w = 0b000000#6 ∧ funct w = code) ∧
  (∀ w, (primary w = 0b000000#6 ∧ funct w = code) ↔ ∃ k < 2 ^ 20, w.toNat = code.toNat + 64 * k) ∧
  (∀ ignored s, exec (mk ignored) s = .next { s with result := .ok ⟨tag, s.word⟩ })

/-- A tag rule of format R (R130 and the rule of the mnemonic); `lo` and `hi` are the smallest and the largest word. -/
def RegimmRule (tag : OpCode) (code : BitVec 5) (mk : BitVec 5 → BitVec 16 → Instr) (lo hi : Word) : Prop :=
  (∀ w, primary w = 0b000001#6 → regimmRt w = code → decode w = mk (w.extractLsb' 21 5) (w.extractLsb' 0 16)) ∧
  (∀ w, decodeWord w = .ok ⟨tag, w⟩ ↔ primary w = 0b000001#6 ∧ regimmRt w = code) ∧
  (∀ w, primary w = 0b000001#6 → regimmRt w = code → lo ≤ w ∧ w ≤ hi) ∧
  (primary lo = 0b000001#6 ∧ regimmRt lo = code ∧ primary hi = 0b000001#6 ∧ regimmRt hi = code) ∧
  (∀ i j s, exec (mk i j) s = .next { s with result := .ok ⟨tag, s.word⟩ })

/-- The arms of the top-level test of R71, each on its own: what it gives a word it claims, and `none` for any other. -/
def topArms (m : CodeMaps) : List (Word → Option (Except DecodeError OpCode)) :=
  [fun w => (m.directOf? (primary w)).map .ok,
   fun w => if primary w = 0b000001#6 then some (classifyRegimm w) else none,
   fun w => if primary w = 0b000000#6 then some (classifySpecial m w) else none,
   fun w => if primary w = 0b010000#6 then some (classifyCop0 w) else none,
   fun w => if primary w = 0b010001#6 then some (classifyCop1 w) else none,
   fun w => if primary w = 0b010010#6 then some (classifyCop2 w) else none,
   fun w => if primary w = 0b011111#6 ∨ primary w = 0b110010#6 ∨ primary w = 0b011100#6
     then some (.ok .UNKNOWN) else none]

/-- R74: the arms tried in a given order, the first that claims the word wins, and a word no arm claims is the PRIMARY
error (R71 step 9). -/
def classifyByArms (arms : List (Word → Option (Except DecodeError OpCode))) (w : Word) : Except DecodeError OpCode :=
  (arms.findSome? fun arm => arm w).getD (.error ⟨.PRIMARY, (primary w).toNat, w⟩)

/-- What a classification says apart from the word: the tag, or the table and the field value. -/
def outcome : Except DecodeError OpCode → OpCode ⊕ (TableName × Nat)
  | .ok t => .inl t
  | .error e => .inr (e.table, e.fieldValue)

/-- R78: the properties of `classify`, (a) to (g), over the maps. -/
structure TestableProperties (m : CodeMaps) : Prop where
  /-- (a), R72: every word has one of the 64 tags or a well-formed error, of a field value within its field -/
  total : ∀ w, (∃ t ∈ OpCode.all, classifyWith m w = .ok t) ∨
    ∃ table v, classifyWith m w = .error ⟨table, v, w⟩ ∧ v < 64 ∧
      (table = .REGIMM ∨ table = .COP1 ∨ table = .COP2 → v < 32)
  /-- (b), R73: at most one arm of the top-level test claims a word -/
  disjoint : ∀ w, (topArms m).countP (fun arm => (arm w).isSome) ≤ 1
  /-- (b), R73: each table gives a field value one outcome, whatever the rest of the word is -/
  deterministic : ∀ w₁ w₂,
    (regimmRt w₁ = regimmRt w₂ → outcome (classifyRegimm w₁) = outcome (classifyRegimm w₂)) ∧
    (funct w₁ = funct w₂ → outcome (classifySpecial m w₁) = outcome (classifySpecial m w₂)) ∧
    (copFmt w₁ = copFmt w₂ → outcome (classifyCop0 w₁) = outcome (classifyCop0 w₂)) ∧
    (copFmt w₁ = copFmt w₂ → outcome (classifyCop1 w₁) = outcome (classifyCop1 w₂)) ∧
    (copFmt w₁ = copFmt w₂ → copFmt w₁ ≠ 0b10001#5 → outcome (classifyCop2 w₁) = outcome (classifyCop2 w₂)) ∧
    (cop2VecOp w₁ = cop2VecOp w₂ → outcome (classifyCop2Vec w₁) = outcome (classifyCop2Vec w₂))
  /-- (c): the source's anchor of the primary table -/
  addiu : (∀ w, primary w = 0b001001#6 → classifyWith m w = .ok .ADDIU) ∧ classifyWith m 0x24000000#32 = .ok .ADDIU
  /-- (c): the source's anchor of the SPECIAL table -/
  sll : classifyWith m 0x00000000#32 = .ok .SLL
  /-- (d): the REGIMM table is delegated to -/
  regimm : classifyWith m 0x04110000#32 = .ok .BGEZAL ∧
    ∀ w, primary w = 0b000001#6 → regimmRt w = 0b11111#5 → classifyWith m w = .error ⟨.REGIMM, 0b11111, w⟩
  /-- (e): the COP0 lenient fallback -/
  cop0_fallback : ∀ w, primary w = 0b010000#6 → copFmt w ≠ 0b00000#5 → copFmt w ≠ 0b00100#5 →
    classifyWith m w = .ok .MFC0
  /-- (f): an error is never COP0's, and names one of the six tables of R16 -/
  error_table : ∀ w e, classifyWith m w = .error e →
    primary w ≠ 0b010000#6 ∧ e.table ∈ [TableName.PRIMARY, .SPECIAL, .REGIMM, .COP1, .COP2, .COP2VEC]
  /-- (g), R76: the word of every result is the input -/
  word_eq : ∀ w, (∀ i, decodeWith m w = .ok i → i.word = w) ∧ (∀ e, decodeWith m w = .error e → e.word = w)

/-- How many of the 2^32 words have a property. -/
def countWords (p : Word → Bool) : Nat := (Finset.univ.filter fun w => p w = true).card

/-- The table an error names, if the result is an error. -/
def errorTable? : DecodeResult → Option TableName
  | .ok _ => none
  | .error e => some e.table

/-- The tag of a result, if it is a success. -/
def tag? : DecodeResult → Option OpCode
  | .ok i => some i.opcode
  | .error _ => none

/-- The outcome of R77 that may not depend on ignored bits: the tag, or the table and the field value. -/
def verdict : DecodeResult → OpCode ⊕ (TableName × Nat)
  | .ok i => .inl i.opcode
  | .error e => .inr (e.table, e.fieldValue)

end Sys2Proof.Machine
end

