-- ==== Sys2Proof/Certificates/Slice0/Obligations.lean ====
section
/-! DEFINITION. The statements for the provers, from the numbered rules of spec/. -/

open Sys2Proof Sys2Proof.Machine

/-- 70_reset_and_hazards.md R220; 20_memory.md R25. State.reset satisfies State.Inv: the buffer is in canonical form,
the outputs are decode of the input word (R220), no result is collected and the environment is before its header
stage. The input word 0 and the empty buffer of State.reset are the model's choices (log entries 4 and 5). -/
def Obligations.ResetMeetsInvariant : Prop :=
  State.reset.Inv

/-- 20_memory.md R21; 70_reset_and_hazards.md R220. For every list of bytes, State.load of it satisfies State.Inv. How
an image comes to the machine is the model's choice (log entry 5). -/
def Obligations.LoadMeetsInvariant : Prop :=
  ∀ bs : List Byte, (State.load bs).Inv

/-- 10_state.md R10; 20_memory.md R25; 20_memory.md R28; 70_reset_and_hazards.md R222. For every state that meets
State.Inv, if step answers a next state, that state meets State.Inv: canonical buffer, combinational outputs,
results that are the classifications of the buffer's own words in offset order, and a stage, position and header
that agree. -/
def Obligations.StepKeepsInvariant : Prop :=
  ∀ s t : State, s.Inv → step s = .next t → t.Inv

/-- 20_memory.md R25; 00_scope.md R8; 40_classify_toplevel.md R76. In the bootcode stage, with a whole boot block in
the buffer and a whole word left, if the four bytes at the stream position decode to i, then step is exec of i on the
state whose input port holds the big-endian word of those bytes, with the answer collected. collect appends the result,
moves the stream by 4 and ends the stage after the last word of the boot block. That the same step puts the word on the
port and collects the answer (log entry 22), and that a step is one word (log entry 10), are the model's choices. -/
def Obligations.StepRunsTheDecodedWord : Prop :=
  ∀ (s : State) (i : Instr), s.stage = .bootcode → Config.bootBlockBytes ≤ s.imageLen →
    s.pos + 4 ≤ Config.bootBlockBytes → decodeBytes (s.image.bytes s.pos 4) = .ok (i, []) →
    step s = collectOutcome (exec i { s with word := s.image.wordAt s.pos }) ∧
      ∀ u, exec i { s with word := s.image.wordAt s.pos } = .next u →
        step s = .next { u with
          results := u.results ++ [u.result], pos := u.pos + 4,
          stage := if Config.bootBlockBytes ≤ u.pos + 4 then .complete else .bootcode }

/-- 95_test_vectors.md section 5; 30_encoding.md section 3; 92_eei_decisions.md D6. One word of each family, its bits
written from the encoding of its rule, decodes to its constructor with its ignored bits: ADDIU (R91), SD (R120), SLL
(R141), DSRA32 (R157), BGEZAL (R132), MTC0 (R172), the COP0 fallback (R173), MFC1 (R177), MFC2 (R181), VNE (R183),
UNKNOWN (R190) and one failing word of each of the six error tables. The primary value of SD, the funct value of
DSRA32, and that 39 is no primary and 13 no funct value of a mnemonic, rest on the spec's own decision D6 from general
knowledge (PRESUMED, log entry 3). -/
def Obligations.SpecWordsDecode : Prop :=
  decode 0b00100111101111011111111111101000#32 = .addiu 0b11101111011111111111101000#26 ∧
  decode 0b11111111111111111111111111111111#32 = .sd 0b11111111111111111111111111#26 ∧
  decode 0b00000000000010010100000100000000#32 = .sll 0b00000010010100000100#20 ∧
  decode 0b00000000000010100110011111111111#32 = .dsra32 0b00000010100110011111#20 ∧
  decode 0b00000100100100010000000000010000#32 = .bgezal 0b00100#5 0b0000000000010000#16 ∧
  decode 0b01000000100000000110100000000000#32 = .mtc0 0b000000110100000000000#21 ∧
  decode 0b01000010000000000000000000011000#32 = .mfc0Fallback 0b10000#5 0b000000000000000011000#21 ∧
  decode 0b01000100000010000010000000000000#32 = .mfc1 0b010000010000000000000#21 ∧
  decode 0b01001000000010000000100000000000#32 = .mfc2 0b010000000100000000000#21 ∧
  decode 0b01001010001000110001000001100010#32 = .vne 0b000110001000001#15 ∧
  decode 0b11001000100000110000000000000000#32 = .unknown 0b110010#6 0b00100000110000000000000000#26 ∧
  decode 0b10011100000000000000000000000000#32 = .unknownPrimary 0b100111#6 0b00000000000000000000000000#26 ∧
  decode 0b00000000000000000000000000001101#32 = .unknownSpecial 0b001101#6 0b00000000000000000000#20 ∧
  decode 0b00000100000011000000000000000000#32 = .unknownRegimm 0b01100#5 0b00000#5 0b0000000000000000#16 ∧
  decode 0b01000110000000000000000000000000#32 = .unknownCop1 0b10000#5 0b000000000000000000000#21 ∧
  decode 0b01001000110000000000000000000000#32 = .unknownCop2 0b00110#5 0b000000000000000000000#21 ∧
  decode 0b01001010001000000000000000000000#32 = .unknownCop2Vec 0b000000#6 0b000000000000000#15

/-- 30_encoding.md section 2; 30_encoding.md section 3; 20_memory.md R22. For every well-formed instruction, with every
value of every field it carries, decode of its word is the instruction, and the byte decoder gives it from its big-
endian bytes with any further bytes left over. -/
def Obligations.DecodeOfEncode : Prop :=
  ∀ i : Instr, i.wf = true → decode (encode i) = i ∧
    ∀ rest, decodeBytes (encodeBytes i ++ rest) = .ok (i, rest)

/-- 40_classify_toplevel.md R72; 10_state.md R18. For every word, the instruction decode gives is well formed and
encodes to that word again, so no bit of a word is lost (R18: the word is carried with "every bit the classifier
ignored"). -/
def Obligations.EncodeOfDecode : Prop :=
  ∀ w : Word, (decode w).wf = true ∧ encode (decode w) = w

/-- 30_encoding.md layout of opcode_table.json; 40_classify_toplevel.md R73; 44_cop0.md R173. Every word matches the
row (mask and match) of the instruction it decodes to, and if it matches the row of any well-formed instruction, that
row is the same row. The rows of the well-formed instructions are 290, six of them the patterns of the COP0 fallback
(R173). -/
def Obligations.TableRowsPartitionTheWords : Prop :=
  (∀ w : Word, w &&& (decode w).rowMask = (decode w).rowMatch ∧
    ∀ i : Instr, i.wf = true → w &&& i.rowMask = i.rowMatch →
      i.rowMask = (decode w).rowMask ∧ i.rowMatch = (decode w).rowMatch) ∧
    Set.ncard { row : Word × Word | ∃ i : Instr, i.wf = true ∧ row = (i.rowMatch, i.rowMask) } = 290 ∧
    { row : Word × Word | ∃ fmt ignored, (Instr.mfc0Fallback fmt ignored).wf = true ∧
        row = ((Instr.mfc0Fallback fmt ignored).rowMatch, (Instr.mfc0Fallback fmt ignored).rowMask) } =
      { (0x40200000#32, 0xFFE00000#32), (0x40400000#32, 0xFFC00000#32), (0x40A00000#32, 0xFFE00000#32),
        (0x40C00000#32, 0xFFC00000#32), (0x41000000#32, 0xFF000000#32), (0x42000000#32, 0xFE000000#32) }

/-- R76. For every word and every state, the machine's evaluation (decode to an instruction, then its meaning) completes
with the result that decode of R76, over the classifier of R71 with the standard maps, gives the word; the word is
on the input port and nothing else of the state changes. It covers every constructor of Instr, each on the words
that decode to it. -/
def Obligations.EvaluationIsInstructionDecode : Prop :=
  ∀ (w : Word) (s : State),
    exec (decode w) { s with word := w } = .next { s with word := w, result := decodeWord w } ∧
    decodeWord w = (match classify w with
      | .ok t => .ok ⟨t, w⟩
      | .error e => .error e) ∧
    (∀ i, decodeWord w = .ok i → i.word = w) ∧ (∀ e, decodeWord w = .error e → e.word = w)

/-- R211. For every word and state the block answers a next state, whose result is Ok with one of the 64 tags and the
word, or Err with the word and a field value below 64, below 32 when the table is REGIMM, COP1 or COP2. No
instruction, well formed or not, makes the machine fault or refuse. -/
def Obligations.EveryWordHasATypedResult : Prop :=
  (∀ (w : Word) (s : State), ∃ t, evaluate w s = .next t ∧
      ((∃ tag ∈ OpCode.all, t.result = .ok ⟨tag, w⟩) ∨
       (∃ table v, t.result = .error ⟨table, v, w⟩ ∧ v < 64 ∧
          (table = .REGIMM ∨ table = .COP1 ∨ table = .COP2 → v < 32)))) ∧
    (∀ (i : Instr) (s : State), ∃ t, exec i s = .next t)

/-- 40_classify_toplevel.md R70; 40_classify_toplevel.md R75; 20_memory.md R20. For every instruction: on two states
with the same word on the input port it gives the same result, and each next state is the old state with that result
and nothing else changed: the word, the buffer (every byte of it), its length, the stage, the stream position, the
header and the collected results are as before. -/
def Obligations.BlockReadsOnlyTheWord : Prop :=
  ∀ (i : Instr) (s s' : State), s.word = s'.word →
    ∃ r t t', exec i s = .next t ∧ exec i s' = .next t' ∧ t.result = r ∧ t'.result = r ∧
      t.word = s.word ∧ t.image = s.image ∧ t.imageLen = s.imageLen ∧ t.stage = s.stage ∧ t.pos = s.pos ∧
      t.header = s.header ∧ t.results = s.results ∧ ∀ a, t.image.read a = s.image.read a

/-- 60_exceptions.md R206; 60_exceptions.md R205; 40_classify_toplevel.md R75; 70_reset_and_hazards.md R223. For any two
words and any state, evaluating the second after the first gives the very state that evaluating the second alone
gives, whatever the first one's result was (an Ok or an UnknownOpcode): a failure leaves nothing behind and there is
nothing to return from. -/
def Obligations.FailureLeavesNoTrace : Prop :=
  ∀ (w₁ w₂ : Word) (s : State), ∃ t u, evaluate w₁ s = .next t ∧ evaluate w₂ t = .next u ∧
    evaluate w₂ s = .next u

/-- 60_exceptions.md R205; 60_exceptions.md R202; 47_unknown_and_errors.md R192. The shared operation of every failure:
for every table, field value and state, the machine goes on with the result Err(UnknownOpcode(table, field_value,
word)), word being the input word, and every other field as it was: no mode, no saved register, no control transfer. -/
def Obligations.FailureChangesOnlyTheResult : Prop :=
  ∀ (table : TableName) (v : Nat) (s : State),
    s.raiseUnknownOpcode table v = .next { s with result := .error ⟨table, v, s.word⟩ }

/-- 41_primary_direct.md R91 to R100; 92_eei_decisions.md D6. For each of ADDIU, BNE, LUI, LW, SW, ORI, BEQ, JAL, ADDI,
ANDI: a word with that primary value decodes to the mnemonic's constructor; the result is Ok with the tag and the word
exactly for the words with that primary value, which are exactly the words from the smallest to the largest the rule
names; and executing the instruction, on every state and for every value of the ignored bits, completes with that
result and changes nothing else. The numeric values, but for ADDIU's, are the spec's own decision D6 from general
knowledge (PRESUMED, log entry 3). -/
def Obligations.DirectRulesAddiuToAndi : Prop :=
  DirectRule .ADDIU 0b001001#6 Instr.addiu 0x24000000#32 0x27FFFFFF#32 ∧
  DirectRule .BNE 0b000101#6 Instr.bne 0x14000000#32 0x17FFFFFF#32 ∧
  DirectRule .LUI 0b001111#6 Instr.lui 0x3C000000#32 0x3FFFFFFF#32 ∧
  DirectRule .LW 0b100011#6 Instr.lw 0x8C000000#32 0x8FFFFFFF#32 ∧
  DirectRule .SW 0b101011#6 Instr.sw 0xAC000000#32 0xAFFFFFFF#32 ∧
  DirectRule .ORI 0b001101#6 Instr.ori 0x34000000#32 0x37FFFFFF#32 ∧
  DirectRule .BEQ 0b000100#6 Instr.beq 0x10000000#32 0x13FFFFFF#32 ∧
  DirectRule .JAL 0b000011#6 Instr.jal 0x0C000000#32 0x0FFFFFFF#32 ∧
  DirectRule .ADDI 0b001000#6 Instr.addi 0x20000000#32 0x23FFFFFF#32 ∧
  DirectRule .ANDI 0b001100#6 Instr.andi 0x30000000#32 0x33FFFFFF#32

/-- 41_primary_direct.md R101 to R110; 92_eei_decisions.md D6. For each of SLTIU, CACHE, BNEL, SLTI, BEQL, BLEZL, SB,
LBU, XORI, J: a word with that primary value decodes to the mnemonic's constructor; the result is Ok with the tag and
the word exactly for the words with that primary value, which are exactly the words from the smallest to the largest
the rule names; and executing the instruction, on every state and for every value of the ignored bits, completes with
that result and changes nothing else. The neighbouring primary values the rules name (23, 41, 37) are PRIMARY errors.
The ten numeric values, and with them the neighbouring errors, are the spec's own decision D6 from general knowledge
(PRESUMED, log entry 3). -/
def Obligations.DirectRulesSltiuToJ : Prop :=
  DirectRule .SLTIU 0b001011#6 Instr.sltiu 0x2C000000#32 0x2FFFFFFF#32 ∧
  DirectRule .CACHE 0b101111#6 Instr.cache 0xBC000000#32 0xBFFFFFFF#32 ∧
  DirectRule .BNEL 0b010101#6 Instr.bnel 0x54000000#32 0x57FFFFFF#32 ∧
  DirectRule .SLTI 0b001010#6 Instr.slti 0x28000000#32 0x2BFFFFFF#32 ∧
  DirectRule .BEQL 0b010100#6 Instr.beql 0x50000000#32 0x53FFFFFF#32 ∧
  DirectRule .BLEZL 0b010110#6 Instr.blezl 0x58000000#32 0x5BFFFFFF#32 ∧
  DirectRule .SB 0b101000#6 Instr.sb 0xA0000000#32 0xA3FFFFFF#32 ∧
  DirectRule .LBU 0b100100#6 Instr.lbu 0x90000000#32 0x93FFFFFF#32 ∧
  DirectRule .XORI 0b001110#6 Instr.xori 0x38000000#32 0x3BFFFFFF#32 ∧
  DirectRule .J 0b000010#6 Instr.j 0x08000000#32 0x0BFFFFFF#32 ∧
  (∀ p ∈ [0b010111#6, 0b101001#6, 0b100101#6], ∀ w, primary w = p → decodeWord w = .error ⟨.PRIMARY, p.toNat, w⟩)

/-- 41_primary_direct.md R111 to R120; 92_eei_decisions.md D6. For each of LB, LWC1, LH, SC, SCD, LWL, DADDI, LL, BLEZ,
SD: a word with that primary value decodes to the mnemonic's constructor; the result is Ok with the tag and the word
exactly for the words with that primary value, which are exactly the words from the smallest to the largest the rule
names; and executing the instruction, on every state and for every value of the ignored bits, completes with that
result and changes nothing else. The neighbouring primary values the rules name (52, 38, 42, 46, 25, 7, 55) are PRIMARY
errors, and 0b110010 is UNKNOWN. The ten numeric values, and with them the neighbouring errors, are the spec's own
decision D6 from general knowledge (PRESUMED, log entry 3). -/
def Obligations.DirectRulesLbToSd : Prop :=
  DirectRule .LB 0b100000#6 Instr.lb 0x80000000#32 0x83FFFFFF#32 ∧
  DirectRule .LWC1 0b110001#6 Instr.lwc1 0xC4000000#32 0xC7FFFFFF#32 ∧
  DirectRule .LH 0b100001#6 Instr.lh 0x84000000#32 0x87FFFFFF#32 ∧
  DirectRule .SC 0b111000#6 Instr.sc 0xE0000000#32 0xE3FFFFFF#32 ∧
  DirectRule .SCD 0b111100#6 Instr.scd 0xF0000000#32 0xF3FFFFFF#32 ∧
  DirectRule .LWL 0b100010#6 Instr.lwl 0x88000000#32 0x8BFFFFFF#32 ∧
  DirectRule .DADDI 0b011000#6 Instr.daddi 0x60000000#32 0x63FFFFFF#32 ∧
  DirectRule .LL 0b110000#6 Instr.ll 0xC0000000#32 0xC3FFFFFF#32 ∧
  DirectRule .BLEZ 0b000110#6 Instr.blez 0x18000000#32 0x1BFFFFFF#32 ∧
  DirectRule .SD 0b111111#6 Instr.sd 0xFC000000#32 0xFFFFFFFF#32 ∧
  (∀ p ∈ [0b110100#6, 0b100110#6, 0b101010#6, 0b101110#6, 0b011001#6, 0b000111#6, 0b110111#6], ∀ w, primary w = p → decodeWord w = .error ⟨.PRIMARY, p.toNat, w⟩) ∧
  (∀ w, primary w = 0b110010#6 → decodeWord w = .ok ⟨.UNKNOWN, w⟩)

/-- R190. The result is Ok with tag UNKNOWN exactly for the words whose primary value is 0b011111, 0b110010 or 0b011100;
such a word decodes to unknown with its primary value, and executing unknown completes with that success and changes
nothing else. -/
def Obligations.UnknownTagRule : Prop :=
  (∀ w, (primary w = 0b011111#6 ∨ primary w = 0b110010#6 ∨ primary w = 0b011100#6) →
      decode w = .unknown (primary w) (w.extractLsb' 0 26)) ∧
  (∀ w, decodeWord w = .ok ⟨.UNKNOWN, w⟩ ↔
      primary w = 0b011111#6 ∨ primary w = 0b110010#6 ∨ primary w = 0b011100#6) ∧
  (∀ p ignored s, exec (.unknown p ignored) s = .next { s with result := .ok ⟨.UNKNOWN, s.word⟩ })

/-- 47_unknown_and_errors.md R191; 92_eei_decisions.md D6. The result is the failure of table PRIMARY with the 6-bit
primary value, not shifted, exactly for the words whose primary value is one of the 26 the rule lists; such a word
decodes to unknownPrimary; executing unknownPrimary completes with that failure as its result and changes nothing else.
Which 26 values these are depends on the map of primary values, of which 29 of 30 are the spec's own decision D6 from
general knowledge (PRESUMED, log entry 3). -/
def Obligations.PrimaryErrorRule : Prop :=
  (∀ w, (primary w).toNat ∈ primaryErrors → decode w = .unknownPrimary (primary w) (w.extractLsb' 0 26)) ∧
  (∀ w, (primary w).toNat ∈ primaryErrors → decodeWord w = .error ⟨.PRIMARY, w.toNat / 2 ^ 26, w⟩) ∧
  (∀ w, errorTable? (decodeWord w) = some .PRIMARY → (primary w).toNat ∈ primaryErrors) ∧
  (∀ p ignored s, exec (.unknownPrimary p ignored) s = .next { s with result := .error ⟨.PRIMARY, p.toNat, s.word⟩ })

/-- R131; R132; R133; R134; R135. For each of BGEZL, BGEZAL, BLTZ, BLTZAL, TGEI: a word with primary 1 and that rt value
decodes to the mnemonic's constructor; the result is Ok with the tag and the word exactly for those words; the words
the rule names are the smallest and the largest of them; and executing the instruction, on every state and for every
value of the ignored bits, completes with that result and changes nothing else. The neighbouring rt values the rules
name are REGIMM errors. -/
def Obligations.RegimmTagRules : Prop :=
  RegimmRule .BGEZL 0b00011#5 Instr.bgezl 0x04030000#32 0x07E3FFFF#32 ∧
  RegimmRule .BGEZAL 0b10001#5 Instr.bgezal 0x04110000#32 0x07F1FFFF#32 ∧
  RegimmRule .BLTZ 0b00000#5 Instr.bltz 0x04000000#32 0x07E0FFFF#32 ∧
  RegimmRule .BLTZAL 0b10000#5 Instr.bltzal 0x04100000#32 0x07F0FFFF#32 ∧
  RegimmRule .TGEI 0b01000#5 Instr.tgei 0x04080000#32 0x07E8FFFF#32 ∧
  (∀ r ∈ [1, 9, 10, 11, 12, 14], ∀ w, primary w = 0b000001#6 → (regimmRt w).toNat = r →
      decodeWord w = .error ⟨.REGIMM, r, w⟩)

/-- R136. The result is the failure of table REGIMM with the 5-bit rt value exactly for the words with primary 1 whose
rt value is one of the 27 the rule lists; such a word decodes to unknownRegimm; executing unknownRegimm completes
with that failure as its result and changes nothing else. -/
def Obligations.RegimmErrorRule : Prop :=
  (∀ w, primary w = 0b000001#6 → (regimmRt w).toNat ∈ regimmErrors →
      decode w = .unknownRegimm (regimmRt w) (w.extractLsb' 21 5) (w.extractLsb' 0 16) ∧
      decodeWord w = .error ⟨.REGIMM, w.toNat / 2 ^ 16 % 32, w⟩) ∧
  (∀ w, errorTable? (decodeWord w) = some .REGIMM →
      primary w = 0b000001#6 ∧ (regimmRt w).toNat ∈ regimmErrors) ∧
  (∀ rt hi lo s, exec (.unknownRegimm rt hi lo) s = .next { s with result := .error ⟨.REGIMM, rt.toNat, s.word⟩ })

/-- 43_special.md R141 to R152; 92_eei_decisions.md D6. For each of SLL, OR, AND, ADD, SLT, SLTU, JR, MFLO, ADDU, SUBU,
SRLV, SLLV: a word with primary 0 and that funct value decodes to the mnemonic's constructor; the result is Ok with the
tag and the word exactly for those words, which are exactly the funct value plus 64 * k for k from 0 to 2^20 - 1; and
executing the instruction, on every state and for every value of the ignored bits, completes with that result and
changes nothing else. The neighbouring funct values the rules name are SPECIAL errors. The funct values, but for SLL's,
and with them the neighbouring errors, are the spec's own decision D6 from general knowledge (PRESUMED, log entry 3).
-/
def Obligations.SpecialRulesSllToSllv : Prop :=
  SpecialRule .SLL 0b000000#6 Instr.sll ∧
  SpecialRule .OR 0b100101#6 Instr.or ∧
  SpecialRule .AND 0b100100#6 Instr.and ∧
  SpecialRule .ADD 0b100000#6 Instr.add ∧
  SpecialRule .SLT 0b101010#6 Instr.slt ∧
  SpecialRule .SLTU 0b101011#6 Instr.sltu ∧
  SpecialRule .JR 0b001000#6 Instr.jr ∧
  SpecialRule .MFLO 0b010010#6 Instr.mflo ∧
  SpecialRule .ADDU 0b100001#6 Instr.addu ∧
  SpecialRule .SUBU 0b100011#6 Instr.subu ∧
  SpecialRule .SRLV 0b000110#6 Instr.srlv ∧
  SpecialRule .SLLV 0b000100#6 Instr.sllv ∧
  (∀ f ∈ [0b001001#6, 0b010011#6, 0b010001#6, 0b100010#6, 0b000111#6], ∀ w, primary w = 0b000000#6 → funct w = f →
      decodeWord w = .error ⟨.SPECIAL, f.toNat, w⟩)

/-- 43_special.md R153 to R163; 92_eei_decisions.md D6. For each of XOR, SRL, MULTU, MOVCI, DSRA32, MFHI, SRA, SYSCALL,
SYNC, DSLL, DSRL32: a word with primary 0 and that funct value decodes to the mnemonic's constructor; the result is Ok
with the tag and the word exactly for those words, which are exactly the funct value plus 64 * k for k from 0 to 2^20 -
1; and executing the instruction, on every state and for every value of the ignored bits, completes with that result
and changes nothing else. The neighbouring funct values the rules name are SPECIAL errors. The eleven funct values, and
with them the neighbouring errors, are the spec's own decision D6 from general knowledge (PRESUMED, log entry 3). -/
def Obligations.SpecialRulesXorToDsrl : Prop :=
  SpecialRule .XOR 0b100110#6 Instr.xor ∧
  SpecialRule .SRL 0b000010#6 Instr.srl ∧
  SpecialRule .MULTU 0b011001#6 Instr.multu ∧
  SpecialRule .MOVCI 0b000001#6 Instr.movci ∧
  SpecialRule .DSRA32 0b111111#6 Instr.dsra32 ∧
  SpecialRule .MFHI 0b010000#6 Instr.mfhi ∧
  SpecialRule .SRA 0b000011#6 Instr.sra ∧
  SpecialRule .SYSCALL 0b001100#6 Instr.syscall ∧
  SpecialRule .SYNC 0b001111#6 Instr.sync ∧
  SpecialRule .DSLL 0b111000#6 Instr.dsll ∧
  SpecialRule .DSRL32 0b111110#6 Instr.dsrl32 ∧
  (∀ f ∈ [0b100111#6, 0b011000#6, 0b011010#6, 0b011011#6, 0b111100#6, 0b001101#6, 0b111010#6, 0b111011#6], ∀ w, primary w = 0b000000#6 → funct w = f →
      decodeWord w = .error ⟨.SPECIAL, f.toNat, w⟩)

/-- 43_special.md R164; 92_eei_decisions.md D6. The result is the failure of table SPECIAL with the 6-bit funct value
exactly for the words with primary 0 whose funct value is one of the 41 the rule lists; such a word decodes to
unknownSpecial; executing unknownSpecial completes with that failure as its result and changes nothing else. Which 41
values these are depends on the map of funct values, of which 22 of 23 are the spec's own decision D6 from general
knowledge (PRESUMED, log entry 3). -/
def Obligations.SpecialErrorRule : Prop :=
  (∀ w, primary w = 0b000000#6 → (funct w).toNat ∈ specialErrors →
      decode w = .unknownSpecial (funct w) (w.extractLsb' 6 20) ∧
      decodeWord w = .error ⟨.SPECIAL, w.toNat % 64, w⟩) ∧
  (∀ w, errorTable? (decodeWord w) = some .SPECIAL →
      primary w = 0b000000#6 ∧ (funct w).toNat ∈ specialErrors) ∧
  (∀ f ignored s, exec (.unknownSpecial f ignored) s = .next { s with result := .error ⟨.SPECIAL, f.toNat, s.word⟩ })

/-- R171; R172; R173. Under primary 0b010000 the tag is MTC0 exactly when the format is 0b00100 (the words 0x40800000 to
0x409FFFFF) and MFC0 otherwise: by the exact entry for format 0 (the words 0x40000000 to 0x401FFFFF) and by the
fallback for the other 30 formats, which are the words of the six patterns of R173. Executing mfc0, mtc0 and
mfc0Fallback completes with that success and changes nothing else. -/
def Obligations.CopZeroRules : Prop :=
  (∀ w, primary w = 0b010000#6 → copFmt w = 0b00000#5 →
      decode w = .mfc0 (w.extractLsb' 0 21) ∧ decodeWord w = .ok ⟨.MFC0, w⟩) ∧
  (∀ w, (primary w = 0b010000#6 ∧ copFmt w = 0b00000#5) ↔ 0x40000000#32 ≤ w ∧ w ≤ 0x401FFFFF#32) ∧
  (∀ w, primary w = 0b010000#6 → copFmt w = 0b00100#5 → decode w = .mtc0 (w.extractLsb' 0 21)) ∧
  (∀ w, decodeWord w = .ok ⟨.MTC0, w⟩ ↔ 0x40800000#32 ≤ w ∧ w ≤ 0x409FFFFF#32) ∧
  (∀ w, decodeWord w = .ok ⟨.MTC0, w⟩ ↔ primary w = 0b010000#6 ∧ copFmt w = 0b00100#5) ∧
  (∀ w, primary w = 0b010000#6 → copFmt w ≠ 0b00000#5 → copFmt w ≠ 0b00100#5 →
      decode w = .mfc0Fallback (copFmt w) (w.extractLsb' 0 21) ∧ decodeWord w = .ok ⟨.MFC0, w⟩) ∧
  (∀ w, (primary w = 0b010000#6 ∧ copFmt w ≠ 0b00000#5 ∧ copFmt w ≠ 0b00100#5) ↔
      w &&& 0xFFE00000#32 = 0x40200000#32 ∨ w &&& 0xFFC00000#32 = 0x40400000#32 ∨
      w &&& 0xFFE00000#32 = 0x40A00000#32 ∨ w &&& 0xFFC00000#32 = 0x40C00000#32 ∨
      w &&& 0xFF000000#32 = 0x41000000#32 ∨ w &&& 0xFE000000#32 = 0x42000000#32) ∧
  (∀ ignored s, exec (.mfc0 ignored) s = .next { s with result := .ok ⟨.MFC0, s.word⟩ }) ∧
  (∀ ignored s, exec (.mtc0 ignored) s = .next { s with result := .ok ⟨.MTC0, s.word⟩ }) ∧
  (∀ fmt ignored s, exec (.mfc0Fallback fmt ignored) s = .next { s with result := .ok ⟨.MFC0, s.word⟩ })

/-- R177; R178. Under primary 0b010001 the result is Ok MFC1 exactly for format 0 (the words 0x44000000 to 0x441FFFFF)
and the failure of table COP1 with the 5-bit format for the 31 other formats, which are the words of the five
patterns of R178. Executing mfc1 and unknownCop1 completes with that result and changes nothing else. -/
def Obligations.CopOneRules : Prop :=
  (∀ w, primary w = 0b010001#6 → copFmt w = 0b00000#5 → decode w = .mfc1 (w.extractLsb' 0 21)) ∧
  (∀ w, decodeWord w = .ok ⟨.MFC1, w⟩ ↔ primary w = 0b010001#6 ∧ copFmt w = 0b00000#5) ∧
  (∀ w, decodeWord w = .ok ⟨.MFC1, w⟩ ↔ 0x44000000#32 ≤ w ∧ w ≤ 0x441FFFFF#32) ∧
  (∀ w, primary w = 0b010001#6 → copFmt w ≠ 0b00000#5 →
      decode w = .unknownCop1 (copFmt w) (w.extractLsb' 0 21) ∧
      decodeWord w = .error ⟨.COP1, w.toNat / 2 ^ 21 % 32, w⟩) ∧
  (∀ w, errorTable? (decodeWord w) = some .COP1 ↔ primary w = 0b010001#6 ∧ copFmt w ≠ 0b00000#5) ∧
  (∀ w, (primary w = 0b010001#6 ∧ copFmt w ≠ 0b00000#5) ↔
      w &&& 0xFFE00000#32 = 0x44200000#32 ∨ w &&& 0xFFC00000#32 = 0x44400000#32 ∨
      w &&& 0xFF800000#32 = 0x44800000#32 ∨ w &&& 0xFF000000#32 = 0x45000000#32 ∨
      w &&& 0xFE000000#32 = 0x46000000#32) ∧
  (∀ ignored s, exec (.mfc1 ignored) s = .next { s with result := .ok ⟨.MFC1, s.word⟩ }) ∧
  (∀ fmt ignored s, exec (.unknownCop1 fmt ignored) s = .next { s with result := .error ⟨.COP1, fmt.toNat, s.word⟩ })

/-- 46_cop2.md R181 to R185; 43_special.md R164; 92_eei_decisions.md D6. Under primary 0b010010: format 0 gives MFC2
(the words 0x48000000 to 0x481FFFFF, whatever bits 5:0 are); format 0b10001, and no other, delegates to the vector
table, which gives VNE for vector op 0b100010 and else the failure of table COP2VEC with the 6-bit vector op; the 30
other formats give the failure of table COP2 with the 5-bit format. The SPECIAL table plays no part: 0b100010 as the
funct value under primary 0 is the failure 34 of table SPECIAL, which rests on the spec's own decision D6 from general
knowledge (PRESUMED, log entry 3), unlike the other clauses. Executing mfc2, vne, unknownCop2 and unknownCop2Vec
completes with that result and changes nothing else. -/
def Obligations.CopTwoRules : Prop :=
  (∀ w, primary w = 0b010010#6 → copFmt w = 0b00000#5 → decode w = .mfc2 (w.extractLsb' 0 21)) ∧
  (∀ w, decodeWord w = .ok ⟨.MFC2, w⟩ ↔ primary w = 0b010010#6 ∧ copFmt w = 0b00000#5) ∧
  (∀ w, decodeWord w = .ok ⟨.MFC2, w⟩ ↔ 0x48000000#32 ≤ w ∧ w ≤ 0x481FFFFF#32) ∧
  (∀ w, (primary w = 0b010010#6 ∧ copFmt w = 0b10001#5) ↔ 0x4A200000#32 ≤ w ∧ w ≤ 0x4A3FFFFF#32) ∧
  (∀ w, primary w = 0b010010#6 → copFmt w = 0b10001#5 → cop2VecOp w = 0b100010#6 →
      decode w = .vne (w.extractLsb' 6 15)) ∧
  (∀ w, decodeWord w = .ok ⟨.VNE, w⟩ ↔
      primary w = 0b010010#6 ∧ copFmt w = 0b10001#5 ∧ cop2VecOp w = 0b100010#6) ∧
  (∀ w, decodeWord w = .ok ⟨.VNE, w⟩ ↔ ∃ k < 2 ^ 15, w.toNat = 0x4A200022 + 64 * k) ∧
  (∀ w, primary w = 0b010010#6 → copFmt w = 0b10001#5 → cop2VecOp w ≠ 0b100010#6 →
      decode w = .unknownCop2Vec (cop2VecOp w) (w.extractLsb' 6 15) ∧
      decodeWord w = .error ⟨.COP2VEC, w.toNat % 64, w⟩) ∧
  (∀ w, errorTable? (decodeWord w) = some .COP2VEC ↔
      primary w = 0b010010#6 ∧ copFmt w = 0b10001#5 ∧ cop2VecOp w ≠ 0b100010#6) ∧
  (∀ w, primary w = 0b010010#6 → copFmt w ≠ 0b00000#5 → copFmt w ≠ 0b10001#5 →
      decode w = .unknownCop2 (copFmt w) (w.extractLsb' 0 21) ∧
      decodeWord w = .error ⟨.COP2, w.toNat / 2 ^ 21 % 32, w⟩) ∧
  (∀ w, errorTable? (decodeWord w) = some .COP2 ↔
      primary w = 0b010010#6 ∧ copFmt w ≠ 0b00000#5 ∧ copFmt w ≠ 0b10001#5) ∧
  (∀ w, primary w = 0b000000#6 → funct w = 0b100010#6 → decodeWord w = .error ⟨.SPECIAL, 34, w⟩) ∧
  (∀ ignored s, exec (.mfc2 ignored) s = .next { s with result := .ok ⟨.MFC2, s.word⟩ }) ∧
  (∀ ignored s, exec (.vne ignored) s = .next { s with result := .ok ⟨.VNE, s.word⟩ }) ∧
  (∀ fmt ignored s, exec (.unknownCop2 fmt ignored) s = .next { s with result := .error ⟨.COP2, fmt.toNat, s.word⟩ }) ∧
  (∀ op ignored s, exec (.unknownCop2Vec op ignored) s =
      .next { s with result := .error ⟨.COP2VEC, op.toNat, s.word⟩ })

/-- 30_encoding.md R41 to R46. primary is the word shifted right by 26, funct and cop2_vec_op the word mod 64, regimm_rt
and cop_fmt the word shifted right by 16 and 21 mod 32, as unsigned numbers in their ranges; funct and cop2_vec_op
are the same six bits; with the example word of each rule. -/
def Obligations.FieldExtractors : Prop :=
  (∀ w : Word, (primary w).toNat = w.toNat / 2 ^ 26 ∧ (funct w).toNat = w.toNat % 64 ∧
      (regimmRt w).toNat = w.toNat / 2 ^ 16 % 32 ∧ (copFmt w).toNat = w.toNat / 2 ^ 21 % 32 ∧
      (cop2VecOp w).toNat = w.toNat % 64 ∧ cop2VecOp w = funct w) ∧
  primary 0x24000000#32 = 9#6 ∧ funct 0x00000025#32 = 37#6 ∧ regimmRt 0x04110000#32 = 17#5 ∧
  copFmt 0x40800000#32 = 4#5 ∧ cop2VecOp 0x4A200022#32 = 34#6

/-- R77. Two words that agree on primary, and on funct under SPECIAL, on rt under REGIMM, on the format under COP0, COP1
and COP2 and on the vector op under COP2 with format 0b10001, have the same tag, or the same table and field value.
Replacing bits 15:6 of any word changes neither. -/
def Obligations.IgnoredBitsDoNotMatter : Prop :=
  (∀ w₁ w₂ : Word, primary w₁ = primary w₂ →
      (primary w₁ = 0b000000#6 → funct w₁ = funct w₂) →
      (primary w₁ = 0b000001#6 → regimmRt w₁ = regimmRt w₂) →
      (primary w₁ = 0b010000#6 ∨ primary w₁ = 0b010001#6 ∨ primary w₁ = 0b010010#6 → copFmt w₁ = copFmt w₂) →
      (primary w₁ = 0b010010#6 → copFmt w₁ = 0b10001#5 → cop2VecOp w₁ = cop2VecOp w₂) →
      verdict (decodeWord w₁) = verdict (decodeWord w₂)) ∧
  (∀ (w : Word) (x : BitVec 10),
      verdict (decodeWord (w.extractLsb' 16 16 ++ x ++ w.extractLsb' 0 6 : Word)) = verdict (decodeWord w))

/-- R192; R193. If the result is a failure, its word is the input word, and: table PRIMARY carries bits 31:26, SPECIAL
bits 5:0 of a word with primary 0, REGIMM bits 20:16 of a word with primary 1, COP1 and COP2 bits 25:21 of a word
with primary 17 and 18, COP2VEC bits 5:0 of a word with primary 18 and format 17. A failing word under SPECIAL names
SPECIAL, and one under COP2 with format 17 names COP2VEC; a word under COP0 never fails. -/
def Obligations.ErrorPayload : Prop :=
  ∀ (w : Word) (e : DecodeError), decodeWord w = .error e →
    e.word = w ∧
    (e.table = .PRIMARY → e.fieldValue = w.toNat / 2 ^ 26 ∧ primary w ∉ CodeMaps.claimed) ∧
    (e.table = .SPECIAL → e.fieldValue = w.toNat % 64 ∧ primary w = 0b000000#6) ∧
    (e.table = .REGIMM → e.fieldValue = w.toNat / 2 ^ 16 % 32 ∧ primary w = 0b000001#6) ∧
    (e.table = .COP1 → e.fieldValue = w.toNat / 2 ^ 21 % 32 ∧ primary w = 0b010001#6) ∧
    (e.table = .COP2 → e.fieldValue = w.toNat / 2 ^ 21 % 32 ∧ primary w = 0b010010#6 ∧ copFmt w ≠ 0b10001#5) ∧
    (e.table = .COP2VEC → e.fieldValue = w.toNat % 64 ∧ primary w = 0b010010#6 ∧ copFmt w = 0b10001#5) ∧
    (primary w = 0b000000#6 → e.table = .SPECIAL) ∧
    (primary w = 0b000001#6 → e.table = .REGIMM) ∧
    (primary w = 0b010001#6 → e.table = .COP1) ∧
    (primary w = 0b010010#6 → copFmt w = 0b10001#5 → e.table = .COP2VEC) ∧
    (primary w = 0b010010#6 → copFmt w ≠ 0b10001#5 → e.table = .COP2) ∧
    primary w ≠ 0b010000#6

/-- R194. Of all words, 1744830464 give a PRIMARY failure, 42991616 a SPECIAL, 56623104 a REGIMM, 65011712 a COP1,
62914560 a COP2 and 2064384 a COP2VEC failure; 1974435840 fail in all and 2320531456 have an Ok result. -/
def Obligations.ErrorWordCounts : Prop :=
  countWords (fun w => errorTable? (decodeWord w) == some .PRIMARY) = 26 * 2 ^ 26 ∧
  countWords (fun w => errorTable? (decodeWord w) == some .SPECIAL) = 41 * 2 ^ 20 ∧
  countWords (fun w => errorTable? (decodeWord w) == some .REGIMM) = 27 * 2 ^ 21 ∧
  countWords (fun w => errorTable? (decodeWord w) == some .COP1) = 31 * 2 ^ 21 ∧
  countWords (fun w => errorTable? (decodeWord w) == some .COP2) = 30 * 2 ^ 21 ∧
  countWords (fun w => errorTable? (decodeWord w) == some .COP2VEC) = 63 * 2 ^ 15 ∧
  countWords (fun w => (errorTable? (decodeWord w)).isSome) = 1974435840 ∧
  countWords (fun w => (tag? (decodeWord w)).isSome) = 2320531456

/-- 95_test_vectors.md section 4; 41_primary_direct.md R90; 42_regimm.md R130; 43_special.md R140; 44_cop0.md R170;
45_cop1.md R176; 46_cop2.md R180. Each of the 30 direct tags has 2^26 words, each of the 5 REGIMM tags 2^21, each of
the 23 SPECIAL tags 2^20, MTC0, MFC1 and MFC2 2^21 each, MFC0 31 * 2^21, VNE 2^15 and UNKNOWN 3 * 2^26. -/
def Obligations.TagWordCounts : Prop :=
  (∀ t ∈ OpCode.direct, countWords (fun w => tag? (decodeWord w) == some t) = 2 ^ 26) ∧
  (∀ t ∈ OpCode.regimm, countWords (fun w => tag? (decodeWord w) == some t) = 2 ^ 21) ∧
  (∀ t ∈ OpCode.special, countWords (fun w => tag? (decodeWord w) == some t) = 2 ^ 20) ∧
  countWords (fun w => tag? (decodeWord w) == some .MTC0) = 2 ^ 21 ∧
  countWords (fun w => tag? (decodeWord w) == some .MFC0) = 31 * 2 ^ 21 ∧
  countWords (fun w => tag? (decodeWord w) == some .MFC1) = 2 ^ 21 ∧
  countWords (fun w => tag? (decodeWord w) == some .MFC2) = 2 ^ 21 ∧
  countWords (fun w => tag? (decodeWord w) == some .VNE) = 2 ^ 15 ∧
  countWords (fun w => tag? (decodeWord w) == some .UNKNOWN) = 3 * 2 ^ 26

/-- 30_encoding.md R61. The numeric values of R49 and R50 form an admissible pair of maps: injective on their mnemonics,
off the eight claimed primary values, with the two anchors. Of the 53 values 51 are the spec's own decision D6 (log
entry 3). -/
def Obligations.StandardMapsAreAdmissible : Prop :=
  standardMaps.Admissible

/-- 30_encoding.md R61; 47_unknown_and_errors.md R191; 43_special.md R164. For every admissible pair of maps, of the 64
primary values exactly 26 are PRIMARY errors and 38 are not, whatever the other bits of the word are; of the 64
funct values under SPECIAL exactly 23 give a tag and 41 are SPECIAL errors. -/
def Obligations.AdmissibleMapsKeepTheCounts : Prop :=
  ∀ m : CodeMaps, m.Admissible → ∀ (x : BitVec 26) (y : BitVec 20),
    (Finset.univ.filter fun p : BitVec 6 => errorTable? (decodeWith m (p ++ x : Word)) = some .PRIMARY).card = 26 ∧
    (Finset.univ.filter fun p : BitVec 6 => errorTable? (decodeWith m (p ++ x : Word)) ≠ some .PRIMARY).card = 38 ∧
    (Finset.univ.filter fun f : BitVec 6 =>
      errorTable? (decodeWith m (0b000000#6 ++ y ++ f : Word)) = some .SPECIAL).card = 41 ∧
    (Finset.univ.filter fun f : BitVec 6 =>
      (tag? (decodeWith m (0b000000#6 ++ y ++ f : Word))).isSome = true).card = 23

/-- 30_encoding.md R61; 41_primary_direct.md R90; 43_special.md R140. For every admissible pair of maps: a word with the
primary value of a direct mnemonic gives that mnemonic; a word with primary 0 and the funct value of a SPECIAL
mnemonic gives that mnemonic, and with no such value the SPECIAL failure; every word of the other seven claimed
primary values has the result it has under the standard maps; and a word of any other primary value is the PRIMARY
failure. -/
def Obligations.AdmissibleMapsKeepTheRules : Prop :=
  ∀ m : CodeMaps, m.Admissible →
    (∀ t ∈ OpCode.direct, ∀ w, primary w = m.primaryCode t → decodeWith m w = .ok ⟨t, w⟩) ∧
    (∀ t ∈ OpCode.special, ∀ w, primary w = 0b000000#6 → funct w = m.functCode t → decodeWith m w = .ok ⟨t, w⟩) ∧
    (∀ w, primary w = 0b000000#6 → (∀ t ∈ OpCode.special, funct w ≠ m.functCode t) →
      decodeWith m w = .error ⟨.SPECIAL, (funct w).toNat, w⟩) ∧
    (∀ w, primary w ∈ CodeMaps.claimed → primary w ≠ 0b000000#6 → decodeWith m w = decodeWord w) ∧
    (∀ w, primary w ∉ CodeMaps.claimed → (∀ t ∈ OpCode.direct, primary w ≠ m.primaryCode t) →
      decodeWith m w = .error ⟨.PRIMARY, (primary w).toNat, w⟩)

/-- R74. For every admissible pair of maps at most one of the seven arms of the top-level test of R71 claims a word,
and every permutation of the arms, tried in that order, first match wins, gives every word the result of classify. For
any pair of maps the order of R71, direct mappings first, gives that result. -/
def Obligations.ArmOrderDoesNotMatter : Prop :=
  (∀ m : CodeMaps, m.Admissible → ∀ w, (topArms m).countP (fun arm => (arm w).isSome) ≤ 1) ∧
  (∀ m : CodeMaps, m.Admissible → ∀ arms, arms.Perm (topArms m) → ∀ w, classifyByArms arms w = classifyWith m w) ∧
    (∀ (m : CodeMaps) (w : Word), classifyByArms (topArms m) w = classifyWith m w)

/-- 10_state.md R19; 92_eei_decisions.md D2, D7, D8. In every state that meets the invariant, port word is the input
word, word_out equals it, ok is 1 exactly when the result is Ok, tag is the result's tag when ok is 1, and err_table
and err_field are the failure's table and field value (5-bit values zero-extended) when ok is 0. Nothing is said of
an output that is not meaningful: it is a free value (log entry 6). -/
def Obligations.PortsCarryTheResult : Prop :=
  ∀ s : State, s.Inv →
    s.ports.word = s.word ∧ s.ports.wordOut = s.word ∧
    (s.ports.ok = true ↔ ∃ i, decodeWord s.word = .ok i) ∧
    (∀ i, s.result = .ok i → s.ports.tag = i.opcode) ∧
    (∀ e, s.result = .error e → s.ports.ok = false ∧ s.ports.errTable = e.table ∧
      s.ports.errField.toNat = e.fieldValue)

/-- 10_state.md R19; 92_eei_decisions.md D2, D5, D8. For any admissible TAG_ENC (injective, 7 or more bits) and
TABLE_ENC (injective, 3 or more bits): if the encoded ports of two words' classifications are equal, the words and the
results are equal, whatever the wires that are not meaningful carry, which need not be a code (free values, log entry
6). On a success the tag wires carry the code of its tag, on a failure the table wires the code of its table. The
suggested default codes of D5 are such codes. -/
def Obligations.EncodedPortsDetermineTheResult : Prop :=
  (∀ (a b : Nat) (c : PortCodes a b) (w₁ w₂ : Word),
      (portsOf w₁ (decodeWord w₁)).encode c = (portsOf w₂ (decodeWord w₂)).encode c →
      w₁ = w₂ ∧ decodeWord w₁ = decodeWord w₂) ∧
    (∀ (a b : Nat) (c : PortCodes a b) (w : Word) (r₁ r₂ : DecodeResult),
      (∀ e, r₁ = .error e → e.fieldValue < 64) → (∀ e, r₂ = .error e → e.fieldValue < 64) →
      (portsOf w r₁).encode c = (portsOf w r₂).encode c → r₁ = r₂) ∧
    (∀ (a b : Nat) (c : PortCodes a b) (w : Word),
      (∀ i, decodeWord w = .ok i → ((portsOf w (decodeWord w)).encode c).tag = c.tagEnc i.opcode) ∧
      (∀ e, decodeWord w = .error e → ((portsOf w (decodeWord w)).encode c).errTable = c.tableEnc e.table)) ∧
    (∀ x y, suggestedTagEnc x = suggestedTagEnc y → x = y) ∧
    (∀ x y, suggestedTableEnc x = suggestedTableEnc y → x = y)

/-- R22. For every buffer and offset, a word is its four bytes with the lowest offset most significant, and is
MemRead(off, 4); a 16-bit field is its two bytes likewise; the primary opcode is the top six bits of the byte at the
lowest offset. -/
def Obligations.BigEndianFields : Prop :=
  ∀ (m : Memory) (off : Nat),
    (m.wordAt off).toNat = (m.read off).toNat * 2 ^ 24 + (m.read (off + 1)).toNat * 2 ^ 16 +
      (m.read (off + 2)).toNat * 2 ^ 8 + (m.read (off + 3)).toNat ∧
    (m.wordAt off).toNat = m.memRead off 4 ∧
    (m.halfAt off).toNat = (m.read off).toNat * 2 ^ 8 + (m.read (off + 1)).toNat ∧
    (m.halfAt off).toNat = m.memRead off 2 ∧
    (m.wordAt off).extractLsb' 24 8 = m.read off ∧
    (primary (m.wordAt off)).toNat = (m.read off).toNat / 4

/-- 20_memory.md R24; 20_memory.md R23; 60_exceptions.md R208; 60_exceptions.md R209. In the header stage with at least
64 bytes, step reads clock_rate at 0x04, pc at 0x08, release at 0x0C, crc_1 at 0x10, crc_2 at 0x14, the 20 bytes of
image_name at 0x20, manufacturer_id at 0x38, cartridge_id at 0x3C and country_code at 0x3E, all big-endian, moves the
stream to 0x40 and starts the bootcode stage, if the name is valid text; else it fails with InvalidText. Nothing else
changes. Which texts are valid is a free value (log entry 7). That the whole header is one step (log entry 10), that
the name is looked at before the length of the bootcode (DEDUCED, log entry 8) and that the name is kept as its raw
bytes (log entry 15) are the model's choices. -/
def Obligations.HeaderReadAtFixedOffsets : Prop :=
  (∀ s : State, s.stage = .header → s.imageLen < 64 → step s = .fault (.insufficientData .header)) ∧
  (∀ s : State, s.stage = .header → 64 ≤ s.imageLen → step s =
      if Config.textValid (s.image.bytes 0x20 20) then
        .next { s with
          stage := .bootcode, pos := 0x40,
          header := some {
            clockRate := BitVec.ofNat 32 (s.image.memRead 0x04 4), pc := BitVec.ofNat 32 (s.image.memRead 0x08 4),
            release := BitVec.ofNat 32 (s.image.memRead 0x0C 4), crc1 := BitVec.ofNat 32 (s.image.memRead 0x10 4),
            crc2 := BitVec.ofNat 32 (s.image.memRead 0x14 4), imageName := s.image.bytes 0x20 20,
            manufacturerId := BitVec.ofNat 32 (s.image.memRead 0x38 4),
            cartridgeId := BitVec.ofNat 16 (s.image.memRead 0x3C 2),
            countryCode := BitVec.ofNat 16 (s.image.memRead 0x3E 2) } }
      else .fault (.invalidText (s.image.bytes 0x20 20)))

/-- R208. The header stage stops with InsufficientData exactly when fewer than 64 bytes are in the buffer; in a state
that meets the invariant the bootcode stage does so exactly when the buffer is shorter than 4096 bytes, and then no
per-word result has been produced. No instruction ever faults. -/
def Obligations.InsufficientDataExactly : Prop :=
  (∀ s : State, step s = .fault (.insufficientData .header) ↔ s.stage = .header ∧ s.imageLen < 64) ∧
  (∀ s : State, s.Inv →
      (step s = .fault (.insufficientData .bootcode) ↔ s.stage = .bootcode ∧ s.imageLen < 0x40 + 1008 * 4)) ∧
  (∀ s : State, s.Inv → s.imageLen < 0x40 + 1008 * 4 → s.results = []) ∧
  (∀ (i : Instr) (s : State) (f : Fault), exec i s ≠ .fault f)

/-- 60_exceptions.md R209; 20_memory.md R24; 92_eei_decisions.md D19. step stops with InvalidText exactly in the header
stage, with at least 64 bytes, when the 20 bytes at offset 0x20 are not valid text, and reports those bytes. No
instruction ever does. Which texts are valid is a free value (log entry 7), and the length is looked at first (log
entry 8). -/
def Obligations.InvalidTextExactly : Prop :=
  (∀ (s : State) (n : List Byte), step s = .fault (.invalidText n) ↔
      s.stage = .header ∧ 64 ≤ s.imageLen ∧ n = s.image.bytes 0x20 20 ∧ Config.textValid n = false) ∧
  (∀ (i : Instr) (s : State) (n : List Byte), exec i s ≠ .fault (.invalidText n))

/-- 60_exceptions.md R208; 20_memory.md R27; 70_reset_and_hazards.md R222. For every list of fewer than 4096 bytes,
every run of at least two steps from the loaded machine ends in a fault: InsufficientData at the header stage below 64
bytes; from 64 bytes on InsufficientData at the bootcode stage, unless the name is not valid text, which is reported
first (log entries 7 and 8). The load of the image (log entry 5) and the count of one step for the header and one for
the bootcode (log entry 10) are the model's choices too. -/
def Obligations.ShortImageFails : Prop :=
  ∀ bs : List Byte, bs.length < 4096 → ∀ k, 2 ≤ k → Host.Core.run Sys2Proof.core k (State.load bs) =
    if bs.length < 64 then .fault (.insufficientData .header)
    else if Config.textValid ((bs.drop 0x20).take 20) then .fault (.insufficientData .bootcode)
    else .fault (.invalidText ((bs.drop 0x20).take 20))

/-- 20_memory.md R25; 20_memory.md R28; 60_exceptions.md R210. From every state in the bootcode stage with a whole boot
block in the buffer and the stream at word n, the next k steps, as long as n + k is at most 1008, all complete and
append exactly the k classifications of the words n to n + k - 1 of the buffer, in that order, whatever they are; the
buffer and the header are unchanged and the stream is at word n + k. That a step is one word, whose result the same
step collects, is the model's choice (log entries 10 and 22). -/
def Obligations.ExtractorRun : Prop :=
  ∀ (s : State) (n k : Nat), s.stage = .bootcode → Config.bootBlockBytes ≤ s.imageLen → s.pos = wordOffset n →
    n + k ≤ Config.bootcodeWords →
    ∃ t : State, Host.Core.run Sys2Proof.core k s = .next t ∧
      t.results = s.results ++ (List.range k).map (fun i => decodeWord (s.image.wordAt (wordOffset (n + i)))) ∧
      t.image = s.image ∧ t.imageLen = s.imageLen ∧ t.header = s.header ∧ t.pos = wordOffset (n + k)

/-- 70_reset_and_hazards.md R227; 20_memory.md R25. For every list of at least 4096 bytes and every run of at least
1009 steps from the loaded machine: if the name is valid text, the run has ended with the header read, exactly 1008
per-word results, and result i the classification of the big-endian word of bytes 0x40 + 4i to 0x40 + 4i + 3; else the
run fails with InvalidText. No word ends the run early. That a machine whose run has ended stays as it is, is the
model's choice (log entry 9); which texts are valid is a free value (log entry 7). The load of the image (log entry 5)
and the count of one step for the header and one for each word (log entry 10) are the model's choices too. -/
def Obligations.WholeImageRun : Prop :=
  ∀ bs : List Byte, 4096 ≤ bs.length → ∀ k, 1009 ≤ k →
    if Config.textValid ((bs.drop 0x20).take 20) then
      ∃ t : State, Host.Core.run Sys2Proof.core k (State.load bs) = .next t ∧ t.stage = .complete ∧
        t.results.length = 1008 ∧ t.header = some (headerOf (Memory.ofBytes bs)) ∧
        t.output = some (headerOf (Memory.ofBytes bs), t.results) ∧
        ∀ i < 1008, t.results[i]? = some (decodeWord (wordOfBytes (bs.getD (0x40 + 4 * i) 0#8)
          (bs.getD (0x40 + 4 * i + 1) 0#8) (bs.getD (0x40 + 4 * i + 2) 0#8) (bs.getD (0x40 + 4 * i + 3) 0#8)))
    else Host.Core.run Sys2Proof.core k (State.load bs) = .fault (.invalidText ((bs.drop 0x20).take 20))

/-- 60_exceptions.md R210; 20_memory.md R25; 20_memory.md R32; 60_exceptions.md R201. In every state that meets the
invariant, the pair of an offset and a failure is in the report of failures exactly when the offset is that of a
word already classified and the failure is that word's classification. -/
def Obligations.FailuresAreReportedByOffset : Prop :=
  ∀ s : State, s.Inv → ∀ (off : Nat) (e : DecodeError), (off, e) ∈ s.failures ↔
    ∃ i < s.results.length, off = wordOffset i ∧ decodeWord (s.image.wordAt off) = .error e

/-- 60_exceptions.md R211; 60_exceptions.md R210; 20_memory.md R25. From every state that meets the invariant, is past
the header stage and holds at least 4096 bytes, every run of any length answers a next state: no fault and no refusal,
whatever the words are. That a run goes on after the 1008th word, with the state as it is, is the model's choice (log
entry 9). -/
def Obligations.AfterTheHeaderNothingFails : Prop :=
  ∀ s : State, s.Inv → s.stage ≠ .header → Config.bootBlockBytes ≤ s.imageLen → s.RunsSafely

/-- 20_memory.md R29; 20_memory.md R28. If step answers a next state, the buffer and its length are unchanged, every
offset reads as before, and the results collected before are a prefix of those after; if the state meets the invariant,
the stream position does not go back. -/
def Obligations.BufferAndPastResultsNeverChange : Prop :=
  ∀ s t : State, step s = .next t →
    t.image = s.image ∧ t.imageLen = s.imageLen ∧ (∀ a, t.image.read a = s.image.read a) ∧
    s.results <+: t.results ∧ (s.Inv → s.pos ≤ t.pos)

/-- 20_memory.md R23. Exchanging the buffer for one that agrees on every offset below 0x1000 and has the same length up
to 0x1000 changes no step of any state: the same fault, or the same next state but for the exchanged buffer. -/
def Obligations.NothingReadBeyondTheBootBlock : Prop :=
  ∀ (s : State) (m : Memory) (n : Nat), (∀ a < 0x1000, m.read a = s.image.read a) →
    min n 0x1000 = min s.imageLen 0x1000 →
    step { s with image := m, imageLen := n } = match step s with
      | .next t => .next { t with image := m, imageLen := n }
      | .fault f => .fault f
      | .refused r => .refused r

/-- 70_reset_and_hazards.md R227. In the stage complete, step answers the same state. That it does not stop instead is
the model's choice (log entry 9). -/
def Obligations.CompletedRunStays : Prop :=
  ∀ s : State, s.stage = .complete → step s = .next s

/-- 20_memory.md R22; 20_memory.md R26; 00_scope.md R8. For every state whose buffer is in canonical form and every
32-bit word placed with withFetchWord, the next step completes with that word on the input port, its classification as
the result, and that result appended to the collected ones; the header is unchanged and every byte outside the four
placed reads as before. The placing is the model's means of loading one word (log entry 5). That the same step puts the
word on the port and appends its result is the model's choice too (log entry 22). -/
def Obligations.PlacedWordRunsNext : Prop :=
  ∀ (s : State) (w : Nat), s.image.wf → ∃ t, step (s.withFetchWord 32 w) = .next t ∧
    t.word = BitVec.ofNat 32 w ∧ t.result = decodeWord (BitVec.ofNat 32 w) ∧
    t.results = s.results ++ [decodeWord (BitVec.ofNat 32 w)] ∧ t.header = s.header ∧ t.image.wf ∧
    ∀ a, a < s.fetchOffset ∨ s.fetchOffset + 4 ≤ a → t.image.read a = s.image.read a

/-- R78. Under every admissible pair of maps, and so under the standard maps: (a) every word has one of the 64 tags or
a well-formed error; (b) at most one arm of the top-level test claims a word, and each table gives a field value one
outcome; (c) primary 0b001001 gives ADDIU, for instance 0x24000000, and 0x00000000 gives SLL; (d) 0x04110000 gives
BGEZAL and rt 0b11111 under primary 1 gives UnknownOpcode of REGIMM with 0b11111; (e) a COP0 word with a format neither
0 nor 0b00100 gives MFC0; (f) no error is COP0's and each names one of the six tables; (g) the word of every result is
the input. -/
def Obligations.ClassifierHasTheTestableProperties : Prop :=
  (∀ m : CodeMaps, m.Admissible → TestableProperties m) ∧ TestableProperties standardMaps
end

