-- ==== Sys2Proof/Laws/Decode.lean ====
section
/-! SUPPORT. The field extractors on words put together from their parts, and words put together again from their
fields: the small facts from which decode and encode are seen to agree. -/

namespace Sys2Proof

/-! ### Fields of a word built from parts -/

@[simp] theorem primary_formatP (p : BitVec 6) (x : BitVec 26) : primary (p ++ x) = p :=
  BitVec.extractLsb'_append_eq_left

@[simp] theorem low_formatP (p : BitVec 6) (x : BitVec 26) : (p ++ x : Word).extractLsb' 0 26 = x :=
  BitVec.extractLsb'_append_eq_right

@[simp] theorem primary_formatS (p : BitVec 6) (x : BitVec 20) (f : BitVec 6) : primary (p ++ x ++ f) = p := by
  ext i hi; simp [primary]; grind

@[simp] theorem funct_formatS (p : BitVec 6) (x : BitVec 20) (f : BitVec 6) : funct (p ++ x ++ f) = f :=
  BitVec.extractLsb'_append_eq_right

@[simp] theorem mid_formatS (p : BitVec 6) (x : BitVec 20) (f : BitVec 6) :
    (p ++ x ++ f : Word).extractLsb' 6 20 = x := by
  ext i hi; simp; grind

@[simp] theorem primary_formatR (p : BitVec 6) (x r : BitVec 5) (y : BitVec 16) :
    primary (p ++ x ++ r ++ y) = p := by
  ext i hi; simp [primary]; grind

@[simp] theorem regimmRt_formatR (p : BitVec 6) (x r : BitVec 5) (y : BitVec 16) :
    regimmRt (p ++ x ++ r ++ y) = r := by
  ext i hi; simp [regimmRt]; grind

@[simp] theorem hi_formatR (p : BitVec 6) (x r : BitVec 5) (y : BitVec 16) :
    (p ++ x ++ r ++ y : Word).extractLsb' 21 5 = x := by
  ext i hi; simp; grind

@[simp] theorem lo_formatR (p : BitVec 6) (x r : BitVec 5) (y : BitVec 16) :
    (p ++ x ++ r ++ y : Word).extractLsb' 0 16 = y :=
  BitVec.extractLsb'_append_eq_right

@[simp] theorem primary_formatC (p : BitVec 6) (c : BitVec 5) (x : BitVec 21) : primary (p ++ c ++ x) = p := by
  ext i hi; simp [primary]; grind

@[simp] theorem copFmt_formatC (p : BitVec 6) (c : BitVec 5) (x : BitVec 21) : copFmt (p ++ c ++ x) = c := by
  ext i hi; simp [copFmt]; grind

@[simp] theorem low_formatC (p : BitVec 6) (c : BitVec 5) (x : BitVec 21) :
    (p ++ c ++ x : Word).extractLsb' 0 21 = x :=
  BitVec.extractLsb'_append_eq_right

@[simp] theorem primary_formatV (p : BitVec 6) (c : BitVec 5) (x : BitVec 15) (v : BitVec 6) :
    primary (p ++ c ++ x ++ v) = p := by
  ext i hi; simp [primary]; grind

@[simp] theorem copFmt_formatV (p : BitVec 6) (c : BitVec 5) (x : BitVec 15) (v : BitVec 6) :
    copFmt (p ++ c ++ x ++ v) = c := by
  ext i hi; simp [copFmt]; grind

@[simp] theorem cop2VecOp_formatV (p : BitVec 6) (c : BitVec 5) (x : BitVec 15) (v : BitVec 6) :
    cop2VecOp (p ++ c ++ x ++ v) = v :=
  BitVec.extractLsb'_append_eq_right

@[simp] theorem mid_formatV (p : BitVec 6) (c : BitVec 5) (x : BitVec 15) (v : BitVec 6) :
    (p ++ c ++ x ++ v : Word).extractLsb' 6 15 = x := by
  ext i hi; simp; grind

/-! ### A word is its fields -/

theorem formatP_fields (w : Word) : primary w ++ w.extractLsb' 0 26 = w := by
  ext i hi; simp [primary]; grind

theorem formatS_fields (w : Word) : primary w ++ w.extractLsb' 6 20 ++ funct w = w := by
  ext i hi; simp [primary, funct]; grind

theorem formatR_fields (w : Word) :
    primary w ++ w.extractLsb' 21 5 ++ regimmRt w ++ w.extractLsb' 0 16 = w := by
  ext i hi; simp [primary, regimmRt]; grind

theorem formatC_fields (w : Word) : primary w ++ copFmt w ++ w.extractLsb' 0 21 = w := by
  ext i hi; simp [primary, copFmt]; grind

theorem formatV_fields (w : Word) : primary w ++ copFmt w ++ w.extractLsb' 6 15 ++ cop2VecOp w = w := by
  ext i hi; simp [primary, copFmt, cop2VecOp]; grind

/-- The bytes of a word, put together again big-endian (R22). -/
theorem wordOfBytes_bytes (w : Word) :
    wordOfBytes (w.extractLsb' 24 8) (w.extractLsb' 16 8) (w.extractLsb' 8 8) (w.extractLsb' 0 8) = w := by
  ext i hi; simp [wordOfBytes]; grind

/-- The next word of the bytes of a word is that word. -/
theorem nextWord_bytesOfWord (w : Word) (bs : List Byte) : nextWord (bytesOfWord w ++ bs) = .ok (w, bs) := by
  simp [bytesOfWord, nextWord, wordOfBytes_bytes]

/-- The primary opcode is the top six bits of the byte at the lowest offset (R22). -/
theorem primary_wordOfBytes (b0 b1 b2 b3 : Byte) : primary (wordOfBytes b0 b1 b2 b3) = b0.extractLsb' 2 6 := by
  ext i hi; simp [primary, wordOfBytes]; grind

end Sys2Proof
end

