-- ==== Sys2Proof/Laws/Memory.lean ====
section
/-! SUPPORT. The byte buffer: every operation keeps the canonical form, a read after a write gives the byte written, and
a write leaves every other offset alone. -/

namespace Sys2Proof.Machine

@[simp] theorem Memory.read_nil (a : Nat) : Memory.read [] a = 0#8 := rfl

theorem Memory.read_cons (k : Nat) (v : Byte) (m : Memory) (a : Nat) :
    Memory.read ((k, v) :: m) a = if a = k then v else m.read a := rfl

/-- An offset below every listed one holds 0. -/
theorem Memory.read_of_lt {m : Memory} {a : Nat} (h : ∀ c ∈ m, a < c.1) : m.read a = 0#8 := by
  induction m with
  | nil => rfl
  | cons c m ih =>
    obtain ⟨k, v⟩ := c
    have hk : a < k := h (k, v) (by simp)
    rw [Memory.read_cons, if_neg (by omega)]
    exact ih fun c hc => h c (by simp [hc])

theorem Memory.mem_write {m : Memory} {a : Nat} {b : Byte} {c : Host.Cell} (h : c ∈ m.write a b) :
    c ∈ m ∨ (c = (a, b) ∧ b ≠ 0#8) := by
  induction m with
  | nil => simp only [Memory.write] at h; split at h <;> simp_all
  | cons d m ih =>
    obtain ⟨k, v⟩ := d
    simp only [Memory.write] at h
    split at h
    · split at h
      · exact .inl h
      · next hb => rcases List.mem_cons.1 h with h | h; exacts [.inr ⟨h, hb⟩, .inl h]
    · split at h
      · split at h
        · exact .inl (List.mem_cons_of_mem _ h)
        · next hb => rcases List.mem_cons.1 h with h | h; exacts [.inr ⟨h, hb⟩, .inl (List.mem_cons_of_mem _ h)]
      · rcases List.mem_cons.1 h with h | h
        · simp [h]
        · rcases ih h with h | h
          · simp [h]
          · exact .inr h

/-- A write keeps the canonical form. -/
theorem Memory.write_wf {m : Memory} (h : m.wf) (a : Nat) (b : Byte) : (m.write a b).wf := by
  induction m with
  | nil => simp only [Memory.write]; split <;> simp_all [Memory.wf]
  | cons d m ih =>
    obtain ⟨k, v⟩ := d
    obtain ⟨hp, hn⟩ := h
    rw [List.pairwise_cons] at hp
    have hm : Memory.wf m := ⟨hp.2, fun c hc => hn c (by simp [hc])⟩
    have hv : v ≠ 0#8 := hn (k, v) (by simp)
    simp only [Memory.write]
    split
    · next hak =>
      split
      · exact ⟨List.pairwise_cons.2 hp, hn⟩
      · next hb =>
        refine ⟨List.pairwise_cons.2 ⟨fun c hc => ?_, List.pairwise_cons.2 hp⟩, fun c hc => ?_⟩
        · rcases List.mem_cons.1 hc with rfl | hc
          · exact hak
          · exact lt_trans hak (hp.1 c hc)
        · rcases List.mem_cons.1 hc with rfl | hc
          · exact hb
          · exact hn c hc
    · next hak =>
      split
      · next hk =>
        subst hk
        split
        · exact hm
        · next hb =>
          refine ⟨List.pairwise_cons.2 ⟨hp.1, hp.2⟩, fun c hc => ?_⟩
          rcases List.mem_cons.1 hc with rfl | hc
          · exact hb
          · exact hm.2 c hc
      · next hk =>
        refine ⟨List.pairwise_cons.2 ⟨fun c hc => ?_, (ih hm).1⟩, fun c hc => ?_⟩
        · rcases Memory.mem_write hc with hc | ⟨rfl, -⟩
          · exact hp.1 c hc
          · show k < a; omega
        · rcases List.mem_cons.1 hc with rfl | hc
          · exact hv
          · exact (ih hm).2 c hc

/-- A read after a write to the same offset gives the byte written. -/
theorem Memory.read_write_same {m : Memory} (h : m.wf) (a : Nat) (b : Byte) : (m.write a b).read a = b := by
  induction m with
  | nil => simp only [Memory.write]; split <;> simp_all [Memory.read]
  | cons d m ih =>
    obtain ⟨k, v⟩ := d
    obtain ⟨hp, hn⟩ := h
    rw [List.pairwise_cons] at hp
    have hm : Memory.wf m := ⟨hp.2, fun c hc => hn c (by simp [hc])⟩
    simp only [Memory.write]
    split
    · next hak =>
      split
      · next hb =>
        rw [hb]; apply Memory.read_of_lt
        intro c hc
        rcases List.mem_cons.1 hc with rfl | hc
        · exact hak
        · exact lt_trans hak (hp.1 c hc)
      · simp [Memory.read]
    · split
      · next hk =>
        subst hk
        split
        · next hb => rw [hb]; exact Memory.read_of_lt hp.1
        · simp [Memory.read]
      · next hk => rw [Memory.read_cons, if_neg hk]; exact ih hm

/-- A write leaves every other offset alone. -/
theorem Memory.read_write_other (m : Memory) {a a' : Nat} (b : Byte) (h : a' ≠ a) :
    (m.write a b).read a' = m.read a' := by
  induction m with
  | nil => simp only [Memory.write]; split <;> simp [Memory.read, h]
  | cons d m ih =>
    obtain ⟨k, v⟩ := d
    simp only [Memory.write]
    split
    · split
      · rfl
      · rw [Memory.read_cons, if_neg h]
    · split
      · next hk =>
        subst hk
        split <;> simp [Memory.read_cons, h]
      · simp [Memory.read_cons, ih]

/-- A write keeps every listed offset below a bound that the written offset keeps too. -/
theorem Memory.write_bound {m : Memory} {n a : Nat} (h : ∀ c ∈ m, c.1 < n) (ha : a < n) (b : Byte) :
    ∀ c ∈ m.write a b, c.1 < n := by
  intro c hc
  rcases Memory.mem_write hc with hc | ⟨rfl, -⟩
  · exact h c hc
  · exact ha

theorem Memory.writeBytes_wf {m : Memory} (h : m.wf) (a : Nat) (bs : List Byte) : (m.writeBytes a bs).wf := by
  induction bs generalizing m a with
  | nil => exact h
  | cons b bs ih => exact ih (Memory.write_wf h a b) (a + 1)

theorem Memory.writeBytes_bound {m : Memory} {n a : Nat} (h : ∀ c ∈ m, c.1 < n) (bs : List Byte)
    (ha : a + bs.length ≤ n) : ∀ c ∈ m.writeBytes a bs, c.1 < n := by
  induction bs generalizing m a with
  | nil => exact h
  | cons b bs ih =>
    rw [List.length_cons] at ha
    exact ih (Memory.write_bound h (by omega) b) (by omega)

/-- Writing bytes leaves the offsets before and after them alone. -/
theorem Memory.read_writeBytes_other (m : Memory) (a : Nat) (bs : List Byte) {a' : Nat}
    (h : a' < a ∨ a + bs.length ≤ a') : (m.writeBytes a bs).read a' = m.read a' := by
  induction bs generalizing m a with
  | nil => rfl
  | cons b bs ih =>
    rw [List.length_cons] at h
    rw [Memory.writeBytes, ih _ _ (by omega), Memory.read_write_other _ _ (by omega)]

/-- A read within written bytes gives the byte written there. -/
theorem Memory.read_writeBytes_same {m : Memory} (hm : m.wf) (a : Nat) (bs : List Byte) {i : Nat}
    (h : i < bs.length) : (m.writeBytes a bs).read (a + i) = bs[i] := by
  induction bs generalizing m a i with
  | nil => simp at h
  | cons b bs ih =>
    rw [Memory.writeBytes]
    cases i with
    | zero =>
      rw [Memory.read_writeBytes_other _ _ _ (by omega)]
      exact Memory.read_write_same hm a b
    | succ i =>
      rw [List.length_cons] at h
      have := ih (Memory.write_wf hm a b) (a + 1) (i := i) (by omega)
      rw [show a + (i + 1) = a + 1 + i by omega, this]; rfl

theorem Memory.mem_ofBytesFrom {a : Nat} {bs : List Byte} {c : Host.Cell} (h : c ∈ Memory.ofBytesFrom a bs) :
    a ≤ c.1 ∧ c.1 < a + bs.length ∧ c.2 ≠ 0#8 := by
  induction bs generalizing a with
  | nil => simp [Memory.ofBytesFrom] at h
  | cons b bs ih =>
    simp only [Memory.ofBytesFrom] at h
    rw [List.length_cons]
    split at h
    · have := ih h; exact ⟨by omega, by omega, this.2.2⟩
    · next hb =>
      rcases List.mem_cons.1 h with rfl | h
      · exact ⟨le_refl a, show a < a + (bs.length + 1) by omega, hb⟩
      · have := ih h; refine ⟨by omega, by omega, this.2.2⟩

/-- The buffer of an image is in canonical form. -/
theorem Memory.ofBytesFrom_wf (a : Nat) (bs : List Byte) : (Memory.ofBytesFrom a bs).wf := by
  induction bs generalizing a with
  | nil => simp [Memory.ofBytesFrom, Memory.wf]
  | cons b bs ih =>
    simp only [Memory.ofBytesFrom]
    split
    · exact ih (a + 1)
    · next hb =>
      refine ⟨List.pairwise_cons.2 ⟨fun c hc => ?_, (ih (a + 1)).1⟩, fun c hc => ?_⟩
      · have := Memory.mem_ofBytesFrom hc; show a < c.1; omega
      · rcases List.mem_cons.1 hc with rfl | hc
        · exact hb
        · exact (ih (a + 1)).2 c hc

theorem Memory.read_ofBytesFrom (a : Nat) (bs : List Byte) (i : Nat) :
    (Memory.ofBytesFrom a bs).read (a + i) = bs.getD i 0#8 := by
  induction bs generalizing a i with
  | nil => simp [Memory.ofBytesFrom]
  | cons b bs ih =>
    simp only [Memory.ofBytesFrom]
    cases i with
    | zero =>
      have hlt : (Memory.ofBytesFrom (a + 1) bs).read a = 0#8 :=
        Memory.read_of_lt fun c hc => by have := Memory.mem_ofBytesFrom hc; omega
      split
      · next hb => simp [hb, hlt]
      · simp [Memory.read_cons]
    | succ i =>
      have h := ih (a + 1) i
      rw [show a + 1 + i = a + (i + 1) by omega] at h
      split
      · simpa using h
      · rw [Memory.read_cons, if_neg (by omega)]; simpa using h

/-- Byte number `i` of an image is at offset `i` (R21). -/
theorem Memory.read_ofBytes (bs : List Byte) (i : Nat) : (Memory.ofBytes bs).read i = bs.getD i 0#8 := by
  simpa [Memory.ofBytes] using Memory.read_ofBytesFrom 0 bs i

@[simp] theorem Memory.length_bytes (m : Memory) (off n : Nat) : (m.bytes off n).length = n := by
  simp [Memory.bytes]

/-- Two buffers that agree on a range of offsets give the same bytes there. -/
theorem Memory.bytes_congr {m m' : Memory} {off n : Nat} (h : ∀ a, off ≤ a → a < off + n → m.read a = m'.read a) :
    m.bytes off n = m'.bytes off n := by
  apply List.map_congr_left
  intro k hk
  have := List.mem_range.1 hk
  exact h _ (by omega) (by omega)

theorem Memory.wordAt_congr {m m' : Memory} {off : Nat} (h : ∀ a, off ≤ a → a < off + 4 → m.read a = m'.read a) :
    m.wordAt off = m'.wordAt off := by
  simp only [Memory.wordAt]
  rw [h off (by omega) (by omega), h (off + 1) (by omega) (by omega), h (off + 2) (by omega) (by omega),
    h (off + 3) (by omega) (by omega)]

/-- The next word of the four bytes at an offset is the big-endian word there (R22). -/
theorem nextWord_bytes (m : Memory) (off : Nat) : nextWord (m.bytes off 4) = .ok (m.wordAt off, []) := rfl

/-- Fewer than four bytes are no word (R27). -/
theorem nextWord_short {bs : List Byte} (h : bs.length < 4) : nextWord bs = .error .truncated := by
  match bs, h with
  | [], _ | [_], _ | [_, _], _ | [_, _, _], _ => rfl

/-- All a fetch can do: with a whole boot block and a whole word left it gives the word at the stream position, and
else it is InsufficientData (R208). -/
theorem State.fetchWord_eq (s : State) :
    s.fetchWord = if Config.bootBlockBytes ≤ s.imageLen ∧ s.pos + 4 ≤ Config.bootBlockBytes
      then .ok (s.image.wordAt s.pos) else .error (.insufficientData .bootcode) := by
  unfold State.fetchWord State.streamBytes
  by_cases h1 : s.imageLen < Config.bootBlockBytes
  · rw [if_pos h1, if_neg (by omega)]
  · rw [if_neg h1, show min s.imageLen Config.bootBlockBytes = Config.bootBlockBytes by omega]
    by_cases h2 : s.pos + 4 ≤ Config.bootBlockBytes
    · rw [if_pos ⟨by omega, h2⟩, show min 4 (Config.bootBlockBytes - s.pos) = 4 by omega, nextWord_bytes]
    · rw [if_neg (by omega), nextWord_short (by rw [Memory.length_bytes]; omega)]

end Sys2Proof.Machine
end

