-- ==== Sys2Proof/Laws/PerInstr.lean ====
section
/-! SUPPORT. Per-instruction law RowMatch: the word the encoder gives an instruction is a word of its row of
spec/opcode_table.json (`word & mask = match`, spec/30_encoding.md, layout of the table). -/

namespace Sys2Proof.Laws.RowMatch

/-- The encoded word has, in the bits that select the row, the value the row states. -/
def Statement (i : Instr) : Prop := encode i &&& i.rowMask = i.rowMatch

/-! ### What each format's mask keeps (R48) -/

theorem formatP_and (p : BitVec 6) (x : BitVec 26) :
    (p ++ x : Word) &&& 0xFC000000#32 = p ++ 0#26 := by
  rw [show (0xFC000000#32 : Word) = (BitVec.allOnes 6 ++ 0#26 : Word) from rfl, BitVec.and_append,
    BitVec.and_allOnes, BitVec.and_zero]

theorem formatS_and (x : BitVec 20) (f : BitVec 6) :
    (0#6 ++ x ++ f : Word) &&& 0xFC00003F#32 = 0#6 ++ 0#20 ++ f := by
  rw [show (0xFC00003F#32 : Word) = (BitVec.allOnes 6 ++ 0#20 ++ BitVec.allOnes 6 : Word) from rfl, BitVec.and_append,
    BitVec.and_append, BitVec.and_allOnes, BitVec.and_allOnes, BitVec.and_zero]

theorem formatR_and (p : BitVec 6) (x r : BitVec 5) (y : BitVec 16) :
    (p ++ x ++ r ++ y : Word) &&& 0xFC1F0000#32 = p ++ 0#5 ++ r ++ 0#16 := by
  rw [show (0xFC1F0000#32 : Word) = (BitVec.allOnes 6 ++ 0#5 ++ BitVec.allOnes 5 ++ 0#16 : Word) from rfl,
    BitVec.and_append, BitVec.and_append, BitVec.and_append, BitVec.and_allOnes, BitVec.and_allOnes,
    BitVec.and_zero, BitVec.and_zero]

theorem formatC_and (p : BitVec 6) (c : BitVec 5) (x : BitVec 21) :
    (p ++ c ++ x : Word) &&& 0xFFE00000#32 = p ++ c ++ 0#21 := by
  rw [show (0xFFE00000#32 : Word) = (BitVec.allOnes 6 ++ BitVec.allOnes 5 ++ 0#21 : Word) from rfl,
    BitVec.and_append, BitVec.and_append, BitVec.and_allOnes, BitVec.and_allOnes, BitVec.and_zero]

theorem formatV_and (p : BitVec 6) (c : BitVec 5) (x : BitVec 15) (v : BitVec 6) :
    (p ++ c ++ x ++ v : Word) &&& 0xFFE0003F#32 = p ++ c ++ 0#15 ++ v := by
  rw [show (0xFFE0003F#32 : Word) = (BitVec.allOnes 6 ++ BitVec.allOnes 5 ++ 0#15 ++ BitVec.allOnes 6 : Word) from rfl,
    BitVec.and_append, BitVec.and_append, BitVec.and_append, BitVec.and_allOnes, BitVec.and_allOnes,
    BitVec.and_allOnes, BitVec.and_zero]

/-- R173: a word of the COP0 fallback is a word of its format's row. -/
theorem fallback_and (fmt : BitVec 5) (x : BitVec 21) :
    (0b010000#6 ++ fmt ++ x : Word) &&& (fallbackRow fmt).2 = (fallbackRow fmt).1 := by
  have hm : ∀ fmt : BitVec 5, (fallbackRow fmt).2 = 0xFFE00000#32 &&& (fallbackRow fmt).2 ∧
      (0b010000#6 ++ fmt ++ 0#21 : Word) &&& (fallbackRow fmt).2 = (fallbackRow fmt).1 := by decide
  rw [(hm fmt).1, ← BitVec.and_assoc, formatC_and, (hm fmt).2]

/-! ### One lemma for each constructor -/

theorem addiu (ignored : BitVec 26) : Statement (.addiu ignored) := formatP_and _ _
theorem bne (ignored : BitVec 26) : Statement (.bne ignored) := formatP_and _ _
theorem lui (ignored : BitVec 26) : Statement (.lui ignored) := formatP_and _ _
theorem lw (ignored : BitVec 26) : Statement (.lw ignored) := formatP_and _ _
theorem sw (ignored : BitVec 26) : Statement (.sw ignored) := formatP_and _ _
theorem ori (ignored : BitVec 26) : Statement (.ori ignored) := formatP_and _ _
theorem beq (ignored : BitVec 26) : Statement (.beq ignored) := formatP_and _ _
theorem jal (ignored : BitVec 26) : Statement (.jal ignored) := formatP_and _ _
theorem addi (ignored : BitVec 26) : Statement (.addi ignored) := formatP_and _ _
theorem andi (ignored : BitVec 26) : Statement (.andi ignored) := formatP_and _ _
theorem sltiu (ignored : BitVec 26) : Statement (.sltiu ignored) := formatP_and _ _
theorem cache (ignored : BitVec 26) : Statement (.cache ignored) := formatP_and _ _
theorem bnel (ignored : BitVec 26) : Statement (.bnel ignored) := formatP_and _ _
theorem slti (ignored : BitVec 26) : Statement (.slti ignored) := formatP_and _ _
theorem beql (ignored : BitVec 26) : Statement (.beql ignored) := formatP_and _ _
theorem blezl (ignored : BitVec 26) : Statement (.blezl ignored) := formatP_and _ _
theorem sb (ignored : BitVec 26) : Statement (.sb ignored) := formatP_and _ _
theorem lbu (ignored : BitVec 26) : Statement (.lbu ignored) := formatP_and _ _
theorem xori (ignored : BitVec 26) : Statement (.xori ignored) := formatP_and _ _
theorem j (ignored : BitVec 26) : Statement (.j ignored) := formatP_and _ _
theorem lb (ignored : BitVec 26) : Statement (.lb ignored) := formatP_and _ _
theorem lwc1 (ignored : BitVec 26) : Statement (.lwc1 ignored) := formatP_and _ _
theorem lh (ignored : BitVec 26) : Statement (.lh ignored) := formatP_and _ _
theorem sc (ignored : BitVec 26) : Statement (.sc ignored) := formatP_and _ _
theorem scd (ignored : BitVec 26) : Statement (.scd ignored) := formatP_and _ _
theorem lwl (ignored : BitVec 26) : Statement (.lwl ignored) := formatP_and _ _
theorem daddi (ignored : BitVec 26) : Statement (.daddi ignored) := formatP_and _ _
theorem ll (ignored : BitVec 26) : Statement (.ll ignored) := formatP_and _ _
theorem blez (ignored : BitVec 26) : Statement (.blez ignored) := formatP_and _ _
theorem sd (ignored : BitVec 26) : Statement (.sd ignored) := formatP_and _ _
theorem bgezl (hi : BitVec 5) (lo : BitVec 16) : Statement (.bgezl hi lo) := formatR_and _ _ _ _
theorem bgezal (hi : BitVec 5) (lo : BitVec 16) : Statement (.bgezal hi lo) := formatR_and _ _ _ _
theorem bltz (hi : BitVec 5) (lo : BitVec 16) : Statement (.bltz hi lo) := formatR_and _ _ _ _
theorem bltzal (hi : BitVec 5) (lo : BitVec 16) : Statement (.bltzal hi lo) := formatR_and _ _ _ _
theorem tgei (hi : BitVec 5) (lo : BitVec 16) : Statement (.tgei hi lo) := formatR_and _ _ _ _
theorem sll (ignored : BitVec 20) : Statement (.sll ignored) := formatS_and _ _
theorem or (ignored : BitVec 20) : Statement (.or ignored) := formatS_and _ _
theorem and (ignored : BitVec 20) : Statement (.and ignored) := formatS_and _ _
theorem add (ignored : BitVec 20) : Statement (.add ignored) := formatS_and _ _
theorem slt (ignored : BitVec 20) : Statement (.slt ignored) := formatS_and _ _
theorem sltu (ignored : BitVec 20) : Statement (.sltu ignored) := formatS_and _ _
theorem jr (ignored : BitVec 20) : Statement (.jr ignored) := formatS_and _ _
theorem mflo (ignored : BitVec 20) : Statement (.mflo ignored) := formatS_and _ _
theorem addu (ignored : BitVec 20) : Statement (.addu ignored) := formatS_and _ _
theorem subu (ignored : BitVec 20) : Statement (.subu ignored) := formatS_and _ _
theorem srlv (ignored : BitVec 20) : Statement (.srlv ignored) := formatS_and _ _
theorem sllv (ignored : BitVec 20) : Statement (.sllv ignored) := formatS_and _ _
theorem xor (ignored : BitVec 20) : Statement (.xor ignored) := formatS_and _ _
theorem srl (ignored : BitVec 20) : Statement (.srl ignored) := formatS_and _ _
theorem multu (ignored : BitVec 20) : Statement (.multu ignored) := formatS_and _ _
theorem movci (ignored : BitVec 20) : Statement (.movci ignored) := formatS_and _ _
theorem dsra32 (ignored : BitVec 20) : Statement (.dsra32 ignored) := formatS_and _ _
theorem mfhi (ignored : BitVec 20) : Statement (.mfhi ignored) := formatS_and _ _
theorem sra (ignored : BitVec 20) : Statement (.sra ignored) := formatS_and _ _
theorem syscall (ignored : BitVec 20) : Statement (.syscall ignored) := formatS_and _ _
theorem sync (ignored : BitVec 20) : Statement (.sync ignored) := formatS_and _ _
theorem dsll (ignored : BitVec 20) : Statement (.dsll ignored) := formatS_and _ _
theorem dsrl32 (ignored : BitVec 20) : Statement (.dsrl32 ignored) := formatS_and _ _
theorem mfc0 (ignored : BitVec 21) : Statement (.mfc0 ignored) := formatC_and _ _ _
theorem mtc0 (ignored : BitVec 21) : Statement (.mtc0 ignored) := formatC_and _ _ _
theorem mfc0Fallback (fmt : BitVec 5) (ignored : BitVec 21) : Statement (.mfc0Fallback fmt ignored) :=
  fallback_and fmt ignored
theorem mfc1 (ignored : BitVec 21) : Statement (.mfc1 ignored) := formatC_and _ _ _
theorem mfc2 (ignored : BitVec 21) : Statement (.mfc2 ignored) := formatC_and _ _ _
theorem vne (ignored : BitVec 15) : Statement (.vne ignored) := formatV_and _ _ _ _
theorem unknown (primary : BitVec 6) (ignored : BitVec 26) : Statement (.unknown primary ignored) :=
  (formatP_and _ _).trans (by simp only [Instr.rowMatch]; revert primary; decide)
theorem unknownPrimary (primary : BitVec 6) (ignored : BitVec 26) : Statement (.unknownPrimary primary ignored) :=
  (formatP_and _ _).trans (by simp only [Instr.rowMatch]; revert primary; decide)
theorem unknownSpecial (funct : BitVec 6) (ignored : BitVec 20) : Statement (.unknownSpecial funct ignored) :=
  (formatS_and _ _).trans (by simp only [Instr.rowMatch]; revert funct; decide)
theorem unknownRegimm (rt hi : BitVec 5) (lo : BitVec 16) : Statement (.unknownRegimm rt hi lo) :=
  (formatR_and _ _ _ _).trans (by simp only [Instr.rowMatch]; revert rt; decide)
theorem unknownCop1 (fmt : BitVec 5) (ignored : BitVec 21) : Statement (.unknownCop1 fmt ignored) :=
  (formatC_and _ _ _).trans (by simp only [Instr.rowMatch]; revert fmt; decide)
theorem unknownCop2 (fmt : BitVec 5) (ignored : BitVec 21) : Statement (.unknownCop2 fmt ignored) :=
  (formatC_and _ _ _).trans (by simp only [Instr.rowMatch]; revert fmt; decide)
theorem unknownCop2Vec (op : BitVec 6) (ignored : BitVec 15) : Statement (.unknownCop2Vec op ignored) :=
  (formatV_and _ _ _ _).trans (by simp only [Instr.rowMatch]; revert op; decide)

end Sys2Proof.Laws.RowMatch
end

