-- ==== Sys2Proof/Laws/State.lean ====
section
/-! SUPPORT. What each update of the state does to each field, and what the two results of the block do to the state:
one lemma per field per update, so that no later proof unfolds a record update. -/

namespace Sys2Proof.Machine

variable (s : State) (w : Word)

@[simp] theorem State.present_word : (s.present w).word = w := rfl
@[simp] theorem State.present_result : (s.present w).result = s.result := rfl
@[simp] theorem State.present_image : (s.present w).image = s.image := rfl
@[simp] theorem State.present_imageLen : (s.present w).imageLen = s.imageLen := rfl
@[simp] theorem State.present_stage : (s.present w).stage = s.stage := rfl
@[simp] theorem State.present_pos : (s.present w).pos = s.pos := rfl
@[simp] theorem State.present_header : (s.present w).header = s.header := rfl
@[simp] theorem State.present_results : (s.present w).results = s.results := rfl

@[simp] theorem State.collect_word : s.collect.word = s.word := rfl
@[simp] theorem State.collect_result : s.collect.result = s.result := rfl
@[simp] theorem State.collect_image : s.collect.image = s.image := rfl
@[simp] theorem State.collect_imageLen : s.collect.imageLen = s.imageLen := rfl
@[simp] theorem State.collect_pos : s.collect.pos = s.pos + 4 := rfl
@[simp] theorem State.collect_header : s.collect.header = s.header := rfl
@[simp] theorem State.collect_results : s.collect.results = s.results ++ [s.result] := rfl
@[simp] theorem State.collect_stage :
    s.collect.stage = if Config.bootBlockBytes ≤ s.pos + 4 then .complete else .bootcode := rfl

@[simp] theorem State.placeWord_word : (s.placeWord w).word = s.word := rfl
@[simp] theorem State.placeWord_result : (s.placeWord w).result = s.result := rfl
@[simp] theorem State.placeWord_image :
    (s.placeWord w).image = s.image.writeBytes s.fetchOffset (bytesOfWord w) := rfl
@[simp] theorem State.placeWord_imageLen :
    (s.placeWord w).imageLen = max s.imageLen Config.bootBlockBytes := rfl
@[simp] theorem State.placeWord_stage : (s.placeWord w).stage = .bootcode := rfl
@[simp] theorem State.placeWord_pos : (s.placeWord w).pos = s.fetchOffset := rfl
@[simp] theorem State.placeWord_header : (s.placeWord w).header = s.header := rfl
@[simp] theorem State.placeWord_results : (s.placeWord w).results = s.results := rfl

variable (bs : List Byte)

@[simp] theorem State.load_image : (State.load bs).image = Memory.ofBytes bs := rfl
@[simp] theorem State.load_imageLen : (State.load bs).imageLen = bs.length := rfl
@[simp] theorem State.load_stage : (State.load bs).stage = .header := rfl
@[simp] theorem State.load_pos : (State.load bs).pos = 0 := rfl
@[simp] theorem State.load_header : (State.load bs).header = none := rfl
@[simp] theorem State.load_results : (State.load bs).results = [] := rfl

/-- All a success does (R7, R70). -/
theorem State.succeed_next (tag : OpCode) {t : State} (h : s.succeed tag = .next t) :
    t = { s with result := .ok ⟨tag, s.word⟩ } := by
  cases h; rfl

/-- All a failure does (R205): the result is the Err value and nothing else changes. -/
theorem State.raiseUnknownOpcode_next (table : TableName) (v : Nat) {t : State}
    (h : s.raiseUnknownOpcode table v = .next t) :
    t = { s with result := .error ⟨table, v, s.word⟩ } := by
  cases h; rfl

/-- All the Extractor does with an answer of the block: a next state is collected, anything else is passed on. -/
theorem collectOutcome_next {o : StepOutcome} {t : State} (h : collectOutcome o = .next t) :
    ∃ u, o = .next u ∧ t = u.collect := by
  cases o with
  | next u => exact ⟨u, rfl, by cases h; rfl⟩
  | fault f => cases h
  | refused r => cases h

/-- All the Header Reader does (R24): the length holds, the name is text, and the header is read. -/
theorem State.readHeader_next {t : State} (h : s.readHeader = .next t) :
    Config.headerBytes ≤ s.imageLen ∧ Config.textValid (headerOf s.image).imageName = true ∧
      t = { s with stage := .bootcode, pos := Config.bootcodeOffset, header := some (headerOf s.image) } := by
  unfold State.readHeader at h
  split at h
  · cases h
  · split at h
    · refine ⟨by omega, ‹_›, ?_⟩; cases h; rfl
    · cases h

end Sys2Proof.Machine
end

