-- ==== Sys2Proof/Tests/Slice0.lean ====
section
/-! SUPPORT. Tests. The expected results are the spec's: the words and results of spec/95_test_vectors.md, and words
written out from the encodings of spec/30_encoding.md and of the rule of each mnemonic. The last part gives, for each
statement with hypotheses, a concrete state and operands that meet them. -/

namespace Sys2Proof.Tests

-- one declaration at a time: the kernel checks of the vectors side by side need too many threads
set_option Elab.async false

open Sys2Proof.Machine

/-! ### WellFormed refuses an ill-formed term at each of its checks -/

theorem test_wf_refuses_mfc0Fallback_mfc0 : (Instr.mfc0Fallback 0b00000#5 0#21).wf = false := by decide
theorem test_wf_refuses_mfc0Fallback_mtc0 : (Instr.mfc0Fallback 0b00100#5 0#21).wf = false := by decide
theorem test_wf_refuses_unknown : (Instr.unknown 0b001001#6 0#26).wf = false := by decide
theorem test_wf_refuses_unknownPrimary : (Instr.unknownPrimary 0b001001#6 0#26).wf = false := by decide
theorem test_wf_refuses_unknownSpecial : (Instr.unknownSpecial 0b000000#6 0#20).wf = false := by decide
theorem test_wf_refuses_unknownRegimm : (Instr.unknownRegimm 0b10001#5 0#5 0#16).wf = false := by decide
theorem test_wf_refuses_unknownCop1 : (Instr.unknownCop1 0b00000#5 0#21).wf = false := by decide
theorem test_wf_refuses_unknownCop2_mfc2 : (Instr.unknownCop2 0b00000#5 0#21).wf = false := by decide
theorem test_wf_refuses_unknownCop2_vector : (Instr.unknownCop2 0b10001#5 0#21).wf = false := by decide
theorem test_wf_refuses_unknownCop2Vec : (Instr.unknownCop2Vec 0b100010#6 0#15).wf = false := by decide

/-- The key fields of the spec's own rows are accepted (R190, R191, R164, R136, R173, R178, R185, R184). -/
theorem test_wf_accepts : [Instr.unknown 31#6 0, .unknown 50#6 0, .unknown 28#6 0, .unknownPrimary 7#6 0, .unknownPrimary 62#6 0,
    .unknownSpecial 5#6 0, .unknownSpecial 61#6 0, .unknownRegimm 1#5 0 0, .unknownRegimm 31#5 0 0, .mfc0Fallback 1#5 0,
    .mfc0Fallback 31#5 0, .unknownCop1 1#5 0, .unknownCop1 31#5 0, .unknownCop2 1#5 0, .unknownCop2 31#5 0,
    .unknownCop2Vec 0#6 0, .unknownCop2Vec 63#6 0].all Instr.wf = true := by decide

/-! ### Every constructor's decoding, by a word written from the spec's encoding -/

theorem test_decodeDirect1 :
    decode 0b00100111111111111111111111111111#32 = .addiu 0b11111111111111111111111111#26 ∧
    decode 0b00010101001000001111111111111110#32 = .bne 0b01001000001111111111111110#26 ∧
    decode 0b00111100000010001010010001110000#32 = .lui 0b00000010001010010001110000#26 ∧
    decode 0b10001101000010010000000000001100#32 = .lw 0b01000010010000000000001100#26 ∧
    decode 0b10101111101111110000000000010100#32 = .sw 0b11101111110000000000010100#26 ∧
    decode 0b00110111100011110101101100101101#32 = .ori 0b11100011110101101100101101#26 ∧
    decode 0b00010000100010010000000000000101#32 = .beq 0b00100010010000000000000101#26 ∧
    decode 0b00001111100011110101101100101101#32 = .jal 0b11100011110101101100101101#26 ∧
    decode 0b00100011100011110101101100101101#32 = .addi 0b11100011110101101100101101#26 ∧
    decode 0b00110011100011110101101100101101#32 = .andi 0b11100011110101101100101101#26 ∧
    decode 0b00101111100011110101101100101101#32 = .sltiu 0b11100011110101101100101101#26 ∧
    decode 0b10111100100101000000000000000000#32 = .cache 0b00100101000000000000000000#26 ∧
    decode 0b01010111100011110101101100101101#32 = .bnel 0b11100011110101101100101101#26 ∧
    decode 0b00101011100011110101101100101101#32 = .slti 0b11100011110101101100101101#26 ∧
    decode 0b01010001000000001111111111111100#32 = .beql 0b01000000001111111111111100#26 := by decide

theorem test_decodeDirect2 :
    decode 0b01011011100011110101101100101101#32 = .blezl 0b11100011110101101100101101#26 ∧
    decode 0b10100011100011110101101100101101#32 = .sb 0b11100011110101101100101101#26 ∧
    decode 0b10010011100011110101101100101101#32 = .lbu 0b11100011110101101100101101#26 ∧
    decode 0b00111011100011110101101100101101#32 = .xori 0b11100011110101101100101101#26 ∧
    decode 0b00001001000000000000000000010011#32 = .j 0b01000000000000000000010011#26 ∧
    decode 0b10000011100011110101101100101101#32 = .lb 0b11100011110101101100101101#26 ∧
    decode 0b11000111100011110101101100101101#32 = .lwc1 0b11100011110101101100101101#26 ∧
    decode 0b10000111100011110101101100101101#32 = .lh 0b11100011110101101100101101#26 ∧
    decode 0b11100011100011110101101100101101#32 = .sc 0b11100011110101101100101101#26 ∧
    decode 0b11110000100011000000000000000000#32 = .scd 0b00100011000000000000000000#26 ∧
    decode 0b10001011100011110101101100101101#32 = .lwl 0b11100011110101101100101101#26 ∧
    decode 0b01100001001010010000000000000001#32 = .daddi 0b01001010010000000000000001#26 ∧
    decode 0b11000011100011110101101100101101#32 = .ll 0b11100011110101101100101101#26 ∧
    decode 0b00011011100011110101101100101101#32 = .blez 0b11100011110101101100101101#26 ∧
    decode 0b11111111111111111111111111111111#32 = .sd 0b11111111111111111111111111#26 := by decide

theorem test_decodeRegimm :
    decode 0b00000111100000110101101100101101#32 = .bgezl 0b11100#5 0b0101101100101101#16 ∧
    decode 0b00000111111100011111111111111111#32 = .bgezal 0b11111#5 0b1111111111111111#16 ∧
    decode 0b00000111100000000101101100101101#32 = .bltz 0b11100#5 0b0101101100101101#16 ∧
    decode 0b00000111100100000101101100101101#32 = .bltzal 0b11100#5 0b0101101100101101#16 ∧
    decode 0b00000100100010000000000000000111#32 = .tgei 0b00100#5 0b0000000000000111#16 := by decide

theorem test_decodeSpecial1 :
    decode 0b00000011111111111111111111000000#32 = .sll 0b11111111111111111111#20 ∧
    decode 0b00000000100001010001000000100101#32 = .or 0b00100001010001000000#20 ∧
    decode 0b00000011100011110101101100100100#32 = .and 0b11100011110101101100#20 ∧
    decode 0b00000011100011110101101100100000#32 = .add 0b11100011110101101100#20 ∧
    decode 0b00000011100011110101101100101010#32 = .slt 0b11100011110101101100#20 ∧
    decode 0b00000011100011110101101100101011#32 = .sltu 0b11100011110101101100#20 ∧
    decode 0b00000011111000000000000000001000#32 = .jr 0b11111000000000000000#20 ∧
    decode 0b00000011100011110101101100010010#32 = .mflo 0b11100011110101101100#20 ∧
    decode 0b00000000100010010100100000100001#32 = .addu 0b00100010010100100000#20 ∧
    decode 0b00000000100001010001000000100011#32 = .subu 0b00100001010001000000#20 ∧
    decode 0b00000011100011110101101100000110#32 = .srlv 0b11100011110101101100#20 ∧
    decode 0b00000011100011110101101100000100#32 = .sllv 0b11100011110101101100#20 := by decide

theorem test_decodeSpecial2 :
    decode 0b00000011100011110101101100100110#32 = .xor 0b11100011110101101100#20 ∧
    decode 0b00000011100011110101101100000010#32 = .srl 0b11100011110101101100#20 ∧
    decode 0b00000000100001010000000000011001#32 = .multu 0b00100001010000000000#20 ∧
    decode 0b00000011100011110101101100000001#32 = .movci 0b11100011110101101100#20 ∧
    decode 0b00000011111111111111111111111111#32 = .dsra32 0b11111111111111111111#20 ∧
    decode 0b00000011100011110101101100010000#32 = .mfhi 0b11100011110101101100#20 ∧
    decode 0b00000000000001010001000011000011#32 = .sra 0b00000001010001000011#20 ∧
    decode 0b00000011100011110101101100001100#32 = .syscall 0b11100011110101101100#20 ∧
    decode 0b00000011100011110101101100001111#32 = .sync 0b11100011110101101100#20 ∧
    decode 0b00000000000010010101000100111000#32 = .dsll 0b00000010010101000100#20 ∧
    decode 0b00000000000010010101000100111110#32 = .dsrl32 0b00000010010101000100#20 := by decide

theorem test_decodeCoprocessor :
    decode 0b01000000000010000110000000000000#32 = .mfc0 0b010000110000000000000#21 ∧
    decode 0b01000000100000000110100000000000#32 = .mtc0 0b000000110100000000000#21 ∧
    decode 0b01000000001010000110000000000000#32 = .mfc0Fallback 0b00001#5 0b010000110000000000000#21 ∧
    decode 0b01000100000011110101101100101101#32 = .mfc1 0b011110101101100101101#21 ∧
    decode 0b01001000000011110101101100101101#32 = .mfc2 0b011110101101100101101#21 ∧
    decode 0b01001010001111111111111111100010#32 = .vne 0b111111111111111#15 := by decide

theorem test_decodeFailure :
    decode 0b11001000100000110000000000000000#32 = .unknown 0b110010#6 0b00100000110000000000000000#26 ∧
    decode 0b10010100100010000000000000000000#32 = .unknownPrimary 0b100101#6 0b00100010000000000000000000#26 ∧
    decode 0b00000011001000001111100000001001#32 = .unknownSpecial 0b001001#6 0b11001000001111100000#20 ∧
    decode 0b00000100100000010000000000000100#32 = .unknownRegimm 0b00001#5 0b00100#5 0b0000000000000100#16 ∧
    decode 0b01000100100010000010000000000000#32 = .unknownCop1 0b00100#5 0b010000010000000000000#21 ∧
    decode 0b01001010000000110001000001100010#32 = .unknownCop2 0b10000#5 0b000110001000001100010#21 ∧
    decode 0b01001010001000110001000001100001#32 = .unknownCop2Vec 0b100001#6 0b000110001000001#15 := by decide

/-! ### The spec's vectors -/

/-- The outcomes of a vector: `Ok TAG`, and `Err TABLE value`. -/
abbrev Expected := OpCode ⊕ (TableName × Nat)
abbrev ok (t : OpCode) : Expected := .inl t
abbrev err (table : TableName) (v : Nat) : Expected := .inr (table, v)

/-- The result a vector stands for; its word is always the input word (R76). -/
def expectedResult (w : Word) : Expected → DecodeResult
  | .inl t => .ok ⟨t, w⟩
  | .inr (table, v) => .error ⟨table, v, w⟩

/-- The classifier of R71 and one evaluation of the machine from reset both give the vector's result. -/
def meets (w : Word) (x : Expected) : Bool :=
  decide (decodeWord w = expectedResult w x) &&
    match evaluate w State.reset with
    | .next t => decide (t.result = expectedResult w x)
    | .fault _ | .refused _ => false

/-- A field vector of section 2: the words of the field's values in order, and their results. -/
def meetsAll (word : Nat → Nat) (xs : List Expected) : Bool :=
  (xs.zipIdx).all fun p => meets (BitVec.ofNat 32 (word p.2)) p.1

/-- 95_test_vectors.md section 2.1: every primary value. -/
def primaryVector : List Expected :=
  [ok .SLL, ok .BLTZ, ok .J, ok .JAL, ok .BEQ, ok .BNE, ok .BLEZ, err .PRIMARY 7] ++
  [ok .ADDI, ok .ADDIU, ok .SLTI, ok .SLTIU, ok .ANDI, ok .ORI, ok .XORI, ok .LUI] ++
  [ok .MFC0, ok .MFC1, ok .MFC2, err .PRIMARY 19, ok .BEQL, ok .BNEL, ok .BLEZL, err .PRIMARY 23] ++
  [ok .DADDI, err .PRIMARY 25, err .PRIMARY 26, err .PRIMARY 27, ok .UNKNOWN, err .PRIMARY 29, err .PRIMARY 30, ok .UNKNOWN] ++
  [ok .LB, ok .LH, ok .LWL, ok .LW, ok .LBU, err .PRIMARY 37, err .PRIMARY 38, err .PRIMARY 39] ++
  [ok .SB, err .PRIMARY 41, err .PRIMARY 42, ok .SW, err .PRIMARY 44, err .PRIMARY 45, err .PRIMARY 46, ok .CACHE] ++
  [ok .LL, ok .LWC1, ok .UNKNOWN, err .PRIMARY 51, err .PRIMARY 52, err .PRIMARY 53, err .PRIMARY 54, err .PRIMARY 55] ++
  [ok .SC, err .PRIMARY 57, err .PRIMARY 58, err .PRIMARY 59, ok .SCD, err .PRIMARY 61, err .PRIMARY 62, ok .SD]

theorem test_primary_rest0 : meetsAll (fun p => p * 2 ^ 26) primaryVector = true := by decide +kernel

/-- The rows whose two results differ are those where a deeper field decides. -/
theorem test_primary_rest1 :
    meetsAll (fun p => p * 2 ^ 26 + 0x03FFFFFF)
      ((((primaryVector.set 0 (ok .DSRA32)).set 1 (err .REGIMM 31)).set 17 (err .COP1 31)).set 18 (err .COP2 31)) = true := by
  decide +kernel

/-- 95_test_vectors.md section 2.2: every funct value under SPECIAL. -/
def functVector : List Expected :=
  [ok .SLL, ok .MOVCI, ok .SRL, ok .SRA, ok .SLLV, err .SPECIAL 5, ok .SRLV, err .SPECIAL 7] ++
  [ok .JR, err .SPECIAL 9, err .SPECIAL 10, err .SPECIAL 11, ok .SYSCALL, err .SPECIAL 13, err .SPECIAL 14, ok .SYNC] ++
  [ok .MFHI, err .SPECIAL 17, ok .MFLO, err .SPECIAL 19, err .SPECIAL 20, err .SPECIAL 21, err .SPECIAL 22, err .SPECIAL 23] ++
  [err .SPECIAL 24, ok .MULTU, err .SPECIAL 26, err .SPECIAL 27, err .SPECIAL 28, err .SPECIAL 29, err .SPECIAL 30, err .SPECIAL 31] ++
  [ok .ADD, ok .ADDU, err .SPECIAL 34, ok .SUBU, ok .AND, ok .OR, ok .XOR, err .SPECIAL 39] ++
  [err .SPECIAL 40, err .SPECIAL 41, ok .SLT, ok .SLTU, err .SPECIAL 44, err .SPECIAL 45, err .SPECIAL 46, err .SPECIAL 47] ++
  [err .SPECIAL 48, err .SPECIAL 49, err .SPECIAL 50, err .SPECIAL 51, err .SPECIAL 52, err .SPECIAL 53, err .SPECIAL 54, err .SPECIAL 55] ++
  [ok .DSLL, err .SPECIAL 57, err .SPECIAL 58, err .SPECIAL 59, err .SPECIAL 60, err .SPECIAL 61, ok .DSRL32, ok .DSRA32]

theorem test_funct_rest0 : meetsAll (fun f => f) functVector = true := by decide +kernel
theorem test_funct_rest1 : meetsAll (fun f => 0x03FFFFC0 + f) functVector = true := by decide +kernel

/-- 95_test_vectors.md section 2.3: every rt value under REGIMM. -/
def regimmRtVector : List Expected :=
  [ok .BLTZ, err .REGIMM 1, err .REGIMM 2, ok .BGEZL, err .REGIMM 4, err .REGIMM 5, err .REGIMM 6, err .REGIMM 7] ++
  [ok .TGEI, err .REGIMM 9, err .REGIMM 10, err .REGIMM 11, err .REGIMM 12, err .REGIMM 13, err .REGIMM 14, err .REGIMM 15] ++
  [ok .BLTZAL, ok .BGEZAL, err .REGIMM 18, err .REGIMM 19, err .REGIMM 20, err .REGIMM 21, err .REGIMM 22, err .REGIMM 23] ++
  [err .REGIMM 24, err .REGIMM 25, err .REGIMM 26, err .REGIMM 27, err .REGIMM 28, err .REGIMM 29, err .REGIMM 30, err .REGIMM 31]

theorem test_regimmRt_rest0 : meetsAll (fun r => 0x04000000 + r * 2 ^ 16) regimmRtVector = true := by decide +kernel
theorem test_regimmRt_rest1 : meetsAll (fun r => 0x07E0FFFF + r * 2 ^ 16) regimmRtVector = true := by decide +kernel

/-- 95_test_vectors.md section 2.4: every format under COP0. -/
def copZeroFmtVector : List Expected :=
  [ok .MFC0, ok .MFC0, ok .MFC0, ok .MFC0, ok .MTC0, ok .MFC0, ok .MFC0, ok .MFC0] ++
  [ok .MFC0, ok .MFC0, ok .MFC0, ok .MFC0, ok .MFC0, ok .MFC0, ok .MFC0, ok .MFC0] ++
  [ok .MFC0, ok .MFC0, ok .MFC0, ok .MFC0, ok .MFC0, ok .MFC0, ok .MFC0, ok .MFC0] ++
  [ok .MFC0, ok .MFC0, ok .MFC0, ok .MFC0, ok .MFC0, ok .MFC0, ok .MFC0, ok .MFC0]

theorem test_copZeroFmt_rest0 : meetsAll (fun c => 0x40000000 + c * 2 ^ 21) copZeroFmtVector = true := by decide +kernel
theorem test_copZeroFmt_rest1 : meetsAll (fun c => 0x401FFFFF + c * 2 ^ 21) copZeroFmtVector = true := by decide +kernel

/-- 95_test_vectors.md section 2.5: every format under COP1. -/
def copOneFmtVector : List Expected :=
  [ok .MFC1, err .COP1 1, err .COP1 2, err .COP1 3, err .COP1 4, err .COP1 5, err .COP1 6, err .COP1 7] ++
  [err .COP1 8, err .COP1 9, err .COP1 10, err .COP1 11, err .COP1 12, err .COP1 13, err .COP1 14, err .COP1 15] ++
  [err .COP1 16, err .COP1 17, err .COP1 18, err .COP1 19, err .COP1 20, err .COP1 21, err .COP1 22, err .COP1 23] ++
  [err .COP1 24, err .COP1 25, err .COP1 26, err .COP1 27, err .COP1 28, err .COP1 29, err .COP1 30, err .COP1 31]

theorem test_copOneFmt_rest0 : meetsAll (fun c => 0x44000000 + c * 2 ^ 21) copOneFmtVector = true := by decide +kernel
theorem test_copOneFmt_rest1 : meetsAll (fun c => 0x441FFFFF + c * 2 ^ 21) copOneFmtVector = true := by decide +kernel

/-- 95_test_vectors.md section 2.6: every format under COP2. -/
def copTwoFmtVector : List Expected :=
  [ok .MFC2, err .COP2 1, err .COP2 2, err .COP2 3, err .COP2 4, err .COP2 5, err .COP2 6, err .COP2 7] ++
  [err .COP2 8, err .COP2 9, err .COP2 10, err .COP2 11, err .COP2 12, err .COP2 13, err .COP2 14, err .COP2 15] ++
  [err .COP2 16, err .COP2VEC 0, err .COP2 18, err .COP2 19, err .COP2 20, err .COP2 21, err .COP2 22, err .COP2 23] ++
  [err .COP2 24, err .COP2 25, err .COP2 26, err .COP2 27, err .COP2 28, err .COP2 29, err .COP2 30, err .COP2 31]

theorem test_copTwoFmt_rest0 : meetsAll (fun c => 0x48000000 + c * 2 ^ 21) copTwoFmtVector = true := by decide +kernel

/-- The rows whose two results differ are those where a deeper field decides. -/
theorem test_copTwoFmt_rest1 :
    meetsAll (fun c => 0x481FFFFF + c * 2 ^ 21)
      (copTwoFmtVector.set 17 (err .COP2VEC 63)) = true := by
  decide +kernel

/-- 95_test_vectors.md section 2.7: every vector op. -/
def copTwoVecOpVector : List Expected :=
  [err .COP2VEC 0, err .COP2VEC 1, err .COP2VEC 2, err .COP2VEC 3, err .COP2VEC 4, err .COP2VEC 5, err .COP2VEC 6, err .COP2VEC 7] ++
  [err .COP2VEC 8, err .COP2VEC 9, err .COP2VEC 10, err .COP2VEC 11, err .COP2VEC 12, err .COP2VEC 13, err .COP2VEC 14, err .COP2VEC 15] ++
  [err .COP2VEC 16, err .COP2VEC 17, err .COP2VEC 18, err .COP2VEC 19, err .COP2VEC 20, err .COP2VEC 21, err .COP2VEC 22, err .COP2VEC 23] ++
  [err .COP2VEC 24, err .COP2VEC 25, err .COP2VEC 26, err .COP2VEC 27, err .COP2VEC 28, err .COP2VEC 29, err .COP2VEC 30, err .COP2VEC 31] ++
  [err .COP2VEC 32, err .COP2VEC 33, ok .VNE, err .COP2VEC 35, err .COP2VEC 36, err .COP2VEC 37, err .COP2VEC 38, err .COP2VEC 39] ++
  [err .COP2VEC 40, err .COP2VEC 41, err .COP2VEC 42, err .COP2VEC 43, err .COP2VEC 44, err .COP2VEC 45, err .COP2VEC 46, err .COP2VEC 47] ++
  [err .COP2VEC 48, err .COP2VEC 49, err .COP2VEC 50, err .COP2VEC 51, err .COP2VEC 52, err .COP2VEC 53, err .COP2VEC 54, err .COP2VEC 55] ++
  [err .COP2VEC 56, err .COP2VEC 57, err .COP2VEC 58, err .COP2VEC 59, err .COP2VEC 60, err .COP2VEC 61, err .COP2VEC 62, err .COP2VEC 63]

theorem test_copTwoVecOp_rest0 : meetsAll (fun v => 0x4A200000 + v) copTwoVecOpVector = true := by decide +kernel
theorem test_copTwoVecOp_rest1 : meetsAll (fun v => 0x4A3FFFC0 + v) copTwoVecOpVector = true := by decide +kernel

/-- 95_test_vectors.md section 1, S1 to S5. -/
theorem test_workedExamples : (
    [(0x24000000, ok .ADDIU), (0x27FFFFFF, ok .ADDIU), (0x27BDFFE8, ok .ADDIU), (0x24110000, ok .ADDIU)] ++
    [(0x24000022, ok .ADDIU), (0x00000000, ok .SLL), (0x03FFFFC0, ok .SLL), (0x00084A00, ok .SLL)] ++
    [(0x04110000, ok .BGEZAL), (0x07F1FFFF, ok .BGEZAL), (0x04910010, ok .BGEZAL), (0x041F0000, err .REGIMM 31)] ++
    [(0x07FFFFFF, err .REGIMM 31), (0x40200000, ok .MFC0), (0x40A00000, ok .MFC0), (0x42000018, ok .MFC0)] ++
    [(0x42000002, ok .MFC0), (0x43FFFFFF, ok .MFC0), (0x40000000, ok .MFC0), (0x40800000, ok .MTC0)] :
      List (Nat × Expected)).all (fun p => meets (BitVec.ofNat 32 p.1) p.2) = true := by
  decide +kernel

/-- 95_test_vectors.md section 3.1. -/
theorem test_extremes : (
    [(0x00000000, ok .SLL), (0xFFFFFFFF, ok .SD), (0x7FFFFFFF, ok .UNKNOWN), (0x80000000, ok .LB)] ++
    [(0x00000001, ok .MOVCI), (0x03FFFFFF, ok .DSRA32), (0x04000000, ok .BLTZ), (0x07FFFFFF, err .REGIMM 31)] ++
    [(0x40000000, ok .MFC0), (0x43FFFFFF, ok .MFC0), (0x44000000, ok .MFC1), (0x47FFFFFF, err .COP1 31)] ++
    [(0x48000000, ok .MFC2), (0x4BFFFFFF, err .COP2 31), (0x4A200000, err .COP2VEC 0), (0x4A3FFFFF, err .COP2VEC 63)] ++
    [(0x4A200022, ok .VNE), (0x4A3FFFE2, ok .VNE), (0x70000000, ok .UNKNOWN), (0x73FFFFFF, ok .UNKNOWN)] ++
    [(0x7C000000, ok .UNKNOWN), (0xC8000000, ok .UNKNOWN), (0xCBFFFFFF, ok .UNKNOWN), (0x4C000000, err .PRIMARY 19)] ++
    [(0x1C000000, err .PRIMARY 7), (0xFBFFFFFF, err .PRIMARY 62)] :
      List (Nat × Expected)).all (fun p => meets (BitVec.ofNat 32 p.1) p.2) = true := by
  decide +kernel

/-- 95_test_vectors.md section 3.2. -/
theorem test_plantedKeys : (
    [(0x24110000, ok .ADDIU), (0x2400000C, ok .ADDIU), (0x26200022, ok .ADDIU), (0x0011000C, ok .SYSCALL)] ++
    [(0x00800020, ok .ADD), (0x04110022, ok .BGEZAL), (0x04000005, ok .BLTZ), (0x041F0008, err .REGIMM 31)] ++
    [(0x00000005, err .SPECIAL 5), (0x0008000A, err .SPECIAL 10), (0x40800022, ok .MTC0), (0x42200022, ok .MFC0)] ++
    [(0x46200022, err .COP1 17), (0x44800000, err .COP1 4), (0x48800000, err .COP2 4), (0x4A000022, err .COP2 16)] ++
    [(0x4A400022, err .COP2 18), (0x4B200022, err .COP2 25), (0x4A310022, ok .VNE), (0x48000022, ok .MFC2)] ++
    [(0x7C00003B, ok .UNKNOWN), (0xC8110000, ok .UNKNOWN), (0x1C110022, err .PRIMARY 7)] :
      List (Nat × Expected)).all (fun p => meets (BitVec.ofNat 32 p.1) p.2) = true := by
  decide +kernel

/-- 95_test_vectors.md section 3.3. -/
theorem test_oneBitNeighbours : (
    [(0x24000000, ok .ADDIU), (0x20000000, ok .ADDI), (0x2C000000, ok .SLTIU), (0x34000000, ok .ORI)] ++
    [(0x04000000, ok .BLTZ), (0x64000000, err .PRIMARY 25), (0xA4000000, err .PRIMARY 41), (0x26000000, ok .ADDIU)] ++
    [(0x24010000, ok .ADDIU), (0x24000001, ok .ADDIU), (0x00000000, ok .SLL), (0x00000001, ok .MOVCI)] ++
    [(0x00000002, ok .SRL), (0x00000004, ok .SLLV), (0x00000008, ok .JR), (0x00000010, ok .MFHI)] ++
    [(0x00000020, ok .ADD), (0x00000040, ok .SLL), (0x00008000, ok .SLL), (0x00010000, ok .SLL)] ++
    [(0x00200000, ok .SLL), (0x02000000, ok .SLL), (0x04110000, ok .BGEZAL), (0x04100000, ok .BLTZAL)] ++
    [(0x04130000, err .REGIMM 19), (0x04150000, err .REGIMM 21), (0x04190000, err .REGIMM 25), (0x04010000, err .REGIMM 1)] ++
    [(0x04310000, ok .BGEZAL), (0x04118000, ok .BGEZAL), (0x04110001, ok .BGEZAL), (0x40800000, ok .MTC0)] ++
    [(0x40A00000, ok .MFC0), (0x40C00000, ok .MFC0), (0x40000000, ok .MFC0), (0x41800000, ok .MFC0)] ++
    [(0x42800000, ok .MFC0), (0x44800000, err .COP1 4), (0x48800000, err .COP2 4), (0x40900000, ok .MTC0)] ++
    [(0x40800001, ok .MTC0), (0x44000000, ok .MFC1), (0x44200000, err .COP1 1), (0x46000000, err .COP1 16)] ++
    [(0x44000001, ok .MFC1), (0x4C000000, err .PRIMARY 19), (0x4A200022, ok .VNE), (0x4A200023, err .COP2VEC 35)] ++
    [(0x4A200020, err .COP2VEC 32), (0x4A200026, err .COP2VEC 38), (0x4A20002A, err .COP2VEC 42), (0x4A200032, err .COP2VEC 50)] ++
    [(0x4A200002, err .COP2VEC 2), (0x4A200062, ok .VNE), (0x4A210022, ok .VNE), (0x4A300022, ok .VNE)] ++
    [(0x4A000022, err .COP2 16), (0x4A600022, err .COP2 19), (0x48200022, err .COP2 1), (0x7C000000, ok .UNKNOWN)] ++
    [(0x78000000, err .PRIMARY 30), (0x74000000, err .PRIMARY 29), (0xFC000000, ok .SD)] :
      List (Nat × Expected)).all (fun p => meets (BitVec.ofNat 32 p.1) p.2) = true := by
  decide +kernel

/-- 95_test_vectors.md section 3.4. -/
theorem test_asymmetries : (
    [(0xFFAC0008, ok .SD), (0xDFAC0008, err .PRIMARY 55), (0xAFBF0014, ok .SW), (0xA7A80014, err .PRIMARY 41)] ++
    [(0x90880000, ok .LBU), (0x94880000, err .PRIMARY 37), (0x88880000, ok .LWL), (0x98880003, err .PRIMARY 38)] ++
    [(0x18800004, ok .BLEZ), (0x1C800004, err .PRIMARY 7), (0x61290001, ok .DADDI), (0x65290001, err .PRIMARY 25)] ++
    [(0xC4820000, ok .LWC1), (0xE4820000, err .PRIMARY 57), (0x00851023, ok .SUBU), (0x00851022, err .SPECIAL 34)] ++
    [(0x00850019, ok .MULTU), (0x00850018, err .SPECIAL 24), (0x00001010, ok .MFHI), (0x00800011, err .SPECIAL 17)] ++
    [(0x03E00008, ok .JR), (0x0320F809, err .SPECIAL 9), (0x000510C3, ok .SRA), (0x00851007, err .SPECIAL 7)] ++
    [(0x00095138, ok .DSLL), (0x0009513A, err .SPECIAL 58), (0x0009513E, ok .DSRL32), (0x0009513C, err .SPECIAL 60)] ++
    [(0x04910004, ok .BGEZAL), (0x04810004, err .REGIMM 1), (0x04830004, ok .BGEZL), (0x04820004, err .REGIMM 2)] ++
    [(0x04880007, ok .TGEI), (0x04890007, err .REGIMM 9), (0x44082000, ok .MFC1), (0x44882000, err .COP1 4)] ++
    [(0x48082000, ok .MFC2), (0x48882000, err .COP2 4), (0x40086000, ok .MFC0), (0x40286000, ok .MFC0)] :
      List (Nat × Expected)).all (fun p => meets (BitVec.ofNat 32 p.1) p.2) = true := by
  decide +kernel

/-- 95_test_vectors.md section 5, P1. -/
theorem test_programP1 : (
    [(0x40806800, ok .MTC0), (0x40804800, ok .MTC0), (0x40805800, ok .MTC0), (0x3C08A470, ok .LUI)] ++
    [(0x25080000, ok .ADDIU), (0x8D09000C, ok .LW), (0x1520FFFE, ok .BNE), (0x00000000, ok .SLL)] :
      List (Nat × Expected)).all (fun p => meets (BitVec.ofNat 32 p.1) p.2) = true := by
  decide +kernel

/-- 95_test_vectors.md section 5, P2. -/
theorem test_programP2 : (
    [(0x00001021, ok .ADDU), (0x00054880, ok .SLL), (0x00894821, ok .ADDU), (0x10890005, ok .BEQ)] ++
    [(0x00000000, ok .SLL), (0x8C880000, ok .LW), (0x24840004, ok .ADDIU), (0x09000013, ok .J)] ++
    [(0x00481021, ok .ADDU), (0xACC20000, ok .SW), (0x03E00008, ok .JR)] :
      List (Nat × Expected)).all (fun p => meets (BitVec.ofNat 32 p.1) p.2) = true := by
  decide +kernel

/-- 95_test_vectors.md section 5, P3. -/
theorem test_programP3 : (
    [(0x1C800003, err .PRIMARY 7), (0xA4A80002, err .PRIMARY 41), (0x42000018, ok .MFC0), (0x44882000, err .COP1 4)] ++
    [(0x44082000, ok .MFC1), (0x4A231062, ok .VNE), (0x4A031062, err .COP2 16), (0x4A231061, err .COP2VEC 33)] ++
    [(0xC8830000, ok .UNKNOWN), (0x00851022, err .SPECIAL 34), (0x04810001, err .REGIMM 1), (0x0320F809, err .SPECIAL 9)] ++
    [(0x42000002, ok .MFC0), (0x40086000, ok .MFC0), (0x40286000, ok .MFC0), (0xFFFFFFFF, ok .SD)] :
      List (Nat × Expected)).all (fun p => meets (BitVec.ofNat 32 p.1) p.2) = true := by
  decide +kernel

/-- 95_test_vectors.md section 5, P4. -/
theorem test_programP4 : (
    [(0xC0880000, ok .LL), (0x25080001, ok .ADDIU), (0xE0880000, ok .SC), (0x5100FFFC, ok .BEQL)] ++
    [(0x00000000, ok .SLL), (0x0000000F, ok .SYNC), (0x6129FFFF, ok .DADDI), (0x00095138, ok .DSLL)] ++
    [(0x000A583E, ok .DSRL32), (0x000A67FF, ok .DSRA32), (0xFFAC0008, ok .SD), (0xF08C0000, ok .SCD)] ++
    [(0xBC940000, ok .CACHE), (0x0000000C, ok .SYSCALL), (0x04880064, ok .TGEI), (0xDFAC0008, err .PRIMARY 55)] :
      List (Nat × Expected)).all (fun p => meets (BitVec.ofNat 32 p.1) p.2) = true := by
  decide +kernel

/-- 95_test_vectors.md section 5, P5. -/
theorem test_programP5 : (
    [(0x3C018000, ok .LUI), (0x00851025, ok .OR), (0x04900008, ok .BLTZAL), (0x40826000, ok .MTC0)] ++
    [(0x44022000, ok .MFC1), (0x48022000, ok .MFC2), (0x4A200022, ok .VNE), (0x9C000000, err .PRIMARY 39)] ++
    [(0x0000000D, err .SPECIAL 13), (0x040C0000, err .REGIMM 12), (0x46000000, err .COP1 16), (0x48C00000, err .COP2 6)] ++
    [(0x4A200000, err .COP2VEC 0)] :
      List (Nat × Expected)).all (fun p => meets (BitVec.ofNat 32 p.1) p.2) = true := by
  decide +kernel

/-! ### Bytes, and the environment -/

/-- 95_test_vectors.md section 6.2: the bytes 00 68 80 40 are the word 0x00688040, so SLL and not MTC0 (R22). -/
theorem test_bytesAreBigEndian : decodeBytes [0x00#8, 0x68#8, 0x80#8, 0x40#8, 0xFF#8] =
    .ok (.sll 0b00011010001000000001#20, [0xFF#8]) := by decide

/-- R27: the block never sees a partial word. -/
theorem test_truncatedWord : decodeBytes [0x40#8, 0x80#8, 0x68#8] = .error .truncated := by decide

/-- 95_test_vectors.md section 6.1: the 64 bytes. -/
def headerBytes61 : List Byte :=
  [0x80#8, 0x37#8, 0x12#8, 0x40#8, 0x00#8, 0x00#8, 0x00#8, 0x0F#8, 0x80#8, 0x00#8, 0x04#8, 0x00#8, 0x00#8, 0x00#8, 0x14#8, 0x49#8] ++
  [0x12#8, 0x34#8, 0x56#8, 0x78#8, 0x9A#8, 0xBC#8, 0xDE#8, 0xF0#8, 0x00#8, 0x00#8, 0x00#8, 0x00#8, 0x00#8, 0x00#8, 0x00#8, 0x00#8] ++
  [0x54#8, 0x45#8, 0x53#8, 0x54#8, 0x20#8, 0x49#8, 0x4D#8, 0x41#8, 0x47#8, 0x45#8, 0x20#8, 0x4E#8, 0x41#8, 0x4D#8, 0x45#8, 0x20#8] ++
  [0x20#8, 0x20#8, 0x20#8, 0x20#8, 0x00#8, 0x00#8, 0x00#8, 0x00#8, 0x00#8, 0x00#8, 0x00#8, 0x4E#8, 0x54#8, 0x45#8, 0x45#8, 0x00#8]

/-- 95_test_vectors.md section 6.1: the fields. -/
theorem test_header61 : headerOf (Memory.ofBytes headerBytes61) =
    { clockRate := 0x0000000F#32, pc := 0x80000400#32, release := 0x00001449#32, crc1 := 0x12345678#32,
      crc2 := 0x9ABCDEF0#32,
      imageName := [0x54#8, 0x45#8, 0x53#8, 0x54#8, 0x20#8, 0x49#8, 0x4D#8, 0x41#8, 0x47#8, 0x45#8] ++
        [0x20#8, 0x4E#8, 0x41#8, 0x4D#8, 0x45#8, 0x20#8, 0x20#8, 0x20#8, 0x20#8, 0x20#8],
      manufacturerId := 0x0000004E#32, cartridgeId := 0x5445#16, countryCode := 0x4500#16 } := by decide +kernel

/-- 95_test_vectors.md section 6.1: 63 bytes are InsufficientData (R208). -/
theorem test_header63 : step (State.load (headerBytes61.take 63)) = .fault (.insufficientData .header) := rfl

/-- What a step appends to the results, and the stream position after it. -/
def stepView (o : StepOutcome) : Option (List DecodeResult × Nat × Stage) :=
  match o with
  | .next t => some (t.results, t.pos, t.stage)
  | .fault _ | .refused _ => none

/-- A word placed after reset is the first word the Extractor classifies (R25): VNE, a success. -/
theorem test_placedVne : stepView (step (State.reset.withFetchWord 32 0x4A231062)) =
    some ([.ok ⟨.VNE, 0x4A231062#32⟩], 0x44, .bootcode) := by decide +kernel

/-- A failure does not end the run (R205, R25): JALR is the SPECIAL failure 9. -/
theorem test_placedFailure : stepView (step (State.reset.withFetchWord 32 0x0320F809)) =
    some ([.error ⟨.SPECIAL, 9, 0x0320F809#32⟩], 0x44, .bootcode) := by decide +kernel

/-- The word at 0xFFC is the last: the run has ended (R227). -/
theorem test_lastWord : stepView (step { State.reset with
      imageLen := 4096, stage := .bootcode, pos := 0xFFC, image := [(0xFFC, 0x1C#8)] }) =
    some ([.error ⟨.PRIMARY, 7, 0x1C000000#32⟩], 0x1000, .complete) := by decide +kernel

/-- The host's entry point of the decoder. -/
theorem test_decodeTableWord : decodeTableWord 32 0x4A200022 = some (.vne 0#15) ∧
    decodeTableWord 32 0x9C000000 = some (.unknownPrimary 0b100111#6 0#26) := by decide +kernel

/-- A write of the byte an unlisted offset reads as removes the entry. -/
theorem test_writeZeroRemoves : Memory.write [(3, 1#8), (5, 2#8), (9, 3#8)] 5 0#8 = [(3, 1#8), (9, 3#8)] ∧
    Memory.write [(3, 1#8), (9, 3#8)] 5 2#8 = [(3, 1#8), (5, 2#8), (9, 3#8)] := by decide

/-! ### Witnesses: states and operands that meet the hypotheses of the statements -/

/-- In the bootcode stage, two words done: 0x9C000000 (a failure) and 0x00000000. -/
def midway : State where
  word := 0x00000000#32
  result := .ok ⟨.SLL, 0x00000000#32⟩
  image := [(0x40, 0x9C#8)]
  imageLen := 4096
  stage := .bootcode
  pos := 0x48
  header := some (headerOf [(0x40, 0x9C#8)])
  results := [.error ⟨.PRIMARY, 39, 0x9C000000#32⟩, .ok ⟨.SLL, 0x00000000#32⟩]

/-- One word done, and it failed: the outputs are a failure. -/
def failed : State :=
  { midway with word := 0x9C000000#32, result := .error ⟨.PRIMARY, 39, 0x9C000000#32⟩, pos := 0x44,
                results := [.error ⟨.PRIMARY, 39, 0x9C000000#32⟩] }

/-- In the bootcode stage of a buffer that is `n` bytes long, no word done. -/
def started (n : Nat) : State :=
  { State.reset with imageLen := n, stage := .bootcode, pos := 0x40, header := some (headerOf []) }

/-- A run over 4096 zero bytes, ended with the given results. -/
def endedWith (rs : List DecodeResult) : State :=
  { State.reset with imageLen := 4096, stage := .complete, pos := 0x1000, header := some (headerOf []), results := rs }

theorem test_midway_inv : midway.Inv where
  image_wf := by decide
  image_bound := by decide
  combinational := by decide +kernel
  results_eq := by decide +kernel
  stage_ok := by refine ⟨rfl, ?_, rfl, ?_, .inr ?_⟩ <;> decide

theorem test_failed_inv : failed.Inv where
  image_wf := by decide
  image_bound := by decide
  combinational := by decide +kernel
  results_eq := by decide +kernel
  stage_ok := by refine ⟨rfl, ?_, rfl, ?_, .inr ?_⟩ <;> decide

theorem test_started_inv {n : Nat} (h : 64 ≤ n) : (started n).Inv where
  image_wf := ⟨List.Pairwise.nil, fun c hc => nomatch hc⟩
  image_bound := fun c hc => nomatch hc
  combinational := by
    show State.reset.result = decodeWord State.reset.word
    decide +kernel
  results_eq := rfl
  stage_ok := ⟨rfl, (by decide : 0 < 1008), rfl, h, .inl rfl⟩

theorem test_endedWith_inv {rs : List DecodeResult} (h : rs = expectedResults [] rs.length) (hn : rs.length = 1008) :
    (endedWith rs).Inv where
  image_wf := ⟨List.Pairwise.nil, fun c hc => nomatch hc⟩
  image_bound := fun c hc => nomatch hc
  combinational := by
    show State.reset.result = decodeWord State.reset.word
    decide +kernel
  results_eq := h
  stage_ok := ⟨rfl, hn, rfl, (by decide : 4096 ≤ 4096)⟩

/-- There are results of a run that has ended. -/
theorem test_witness_ended : ∃ rs, (endedWith rs).Inv ∧ (endedWith rs).stage = .complete ∧
    Config.bootBlockBytes ≤ (endedWith rs).imageLen ∧ step (endedWith rs) = .next (endedWith rs) := by
  have hn : ∀ n, (expectedResults [] n).length = n := fun n => by
    simp only [expectedResults, List.length_map, List.length_range]
  generalize h : expectedResults [] 1008 = rs
  have hl : rs.length = 1008 := by rw [← h, hn]
  exact ⟨rs, test_endedWith_inv (by rw [hl, h]) hl, rfl, (by decide : 4096 ≤ 4096), rfl⟩

/-- StepKeepsInvariant, BufferAndPastResultsNeverChange: a step that answers a next state, in the bootcode stage
(test_witness_ended gives one after the end). (In the header stage it does so exactly if the name is valid text, a free value.) -/
theorem test_witness_StepKeepsInvariant :
    midway.Inv ∧ ∃ t, step midway = .next t :=
  ⟨test_midway_inv, _, rfl⟩

/-- StepRunsTheDecodedWord: at the first and at the last word of the boot block. -/
theorem test_witness_StepRunsTheDecodedWord :
    ((started 4096).stage = .bootcode ∧ Config.bootBlockBytes ≤ (started 4096).imageLen ∧
      (started 4096).pos + 4 ≤ Config.bootBlockBytes ∧
      decodeBytes ((started 4096).image.bytes (started 4096).pos 4) = .ok (.sll 0#20, []) ∧
      ∃ u, exec (.sll 0#20) { started 4096 with word := (started 4096).image.wordAt (started 4096).pos } = .next u) ∧
    ({ midway with pos := 0xFFC }.stage = .bootcode ∧ { midway with pos := 0xFFC }.pos + 4 ≤ Config.bootBlockBytes ∧
      decodeBytes ({ midway with pos := 0xFFC }.image.bytes 0xFFC 4) = .ok (.sll 0#20, [])) := by
  refine ⟨⟨rfl, by decide, by decide, by decide +kernel, _, rfl⟩, rfl, by decide, by decide +kernel⟩

/-- DecodeOfEncode: one well-formed instruction of each format, with every ignored bit set. -/
theorem test_witness_DecodeOfEncode :
    [Instr.addiu (BitVec.allOnes 26), .unknownSpecial 61#6 (BitVec.allOnes 20), .bgezal (BitVec.allOnes 5) (BitVec.allOnes 16),
     .mfc0Fallback 31#5 (BitVec.allOnes 21), .vne (BitVec.allOnes 15)].all Instr.wf = true := by decide

/-- TableRowsPartitionTheWords: a word and the row of an instruction that is not its decoding, in each format. -/
theorem test_witness_TableRowsPartitionTheWords :
    [(0x27BDFFE8#32, Instr.addiu 0#26), (0x00084A00#32, .sll 0#20), (0x04910010#32, .bgezal 0#5 0#16),
     (0x42000018#32, .mfc0Fallback 31#5 0#21), (0x40400000#32, .mfc0Fallback 3#5 0#21),
     (0x4A231062#32, .vne 0#15), (0x1C800003#32, .unknownPrimary 7#6 0#26),
     (0x4A231061#32, .unknownCop2Vec 33#6 0#15)].all
      (fun p => p.2.wf && decide (p.1 &&& p.2.rowMask = p.2.rowMatch) && decide (decode p.1 ≠ p.2)) = true := by
  decide +kernel

/-- R173, the six patterns: the row of the lowest and of the highest format of each. -/
theorem test_fallbackRow :
    [1, 2, 3, 5, 6, 7, 8, 15, 16, 31].map (fun n => fallbackRow (BitVec.ofNat 5 n)) =
      [(0x40200000#32, 0xFFE00000#32), (0x40400000#32, 0xFFC00000#32), (0x40400000#32, 0xFFC00000#32),
       (0x40A00000#32, 0xFFE00000#32), (0x40C00000#32, 0xFFC00000#32), (0x40C00000#32, 0xFFC00000#32),
       (0x41000000#32, 0xFF000000#32), (0x41000000#32, 0xFF000000#32),
       (0x42000000#32, 0xFE000000#32), (0x42000000#32, 0xFE000000#32)] := by decide

/-- EvaluationIsInstructionDecode, ErrorPayload, EveryWordHasATypedResult: a success, and a failure of each table. -/
theorem test_witness_EvaluationIsInstructionDecode :
    decodeWord 0x3C018000#32 = .ok ⟨.LUI, 0x3C018000#32⟩ ∧
    decodeWord 0x9C000000#32 = .error ⟨.PRIMARY, 39, 0x9C000000#32⟩ ∧
    decodeWord 0x0000000D#32 = .error ⟨.SPECIAL, 13, 0x0000000D#32⟩ ∧
    decodeWord 0x040C0000#32 = .error ⟨.REGIMM, 12, 0x040C0000#32⟩ ∧
    decodeWord 0x46000000#32 = .error ⟨.COP1, 16, 0x46000000#32⟩ ∧
    decodeWord 0x48C00000#32 = .error ⟨.COP2, 6, 0x48C00000#32⟩ ∧
    decodeWord 0x4A200000#32 = .error ⟨.COP2VEC, 0, 0x4A200000#32⟩ := by decide +kernel

/-- BlockReadsOnlyTheWord: two states that differ in everything but the word. -/
theorem test_witness_BlockReadsOnlyTheWord : midway.word = State.reset.word ∧ midway ≠ State.reset := by decide

/-- DirectRules: the smallest and the largest word of each of the 30 rules have the rule's primary value. -/
theorem test_witness_DirectRules :
    primaryTable.all (fun r => decide (primary (r.2 ++ 0#26 : Word) = r.2) &&
      decide (primary (r.2 ++ BitVec.allOnes 26 : Word) = r.2)) = true ∧
    [0x5C000000#32, 0xA4000000#32, 0x94000000#32, 0xD0000000#32, 0x98000000#32, 0xA8000000#32, 0xB8000000#32,
     0x64000000#32, 0x1C000000#32, 0xDC000000#32].map (fun w => primary w) =
    [0b010111#6, 0b101001#6, 0b100101#6, 0b110100#6, 0b100110#6, 0b101010#6, 0b101110#6, 0b011001#6, 0b000111#6,
     0b110111#6] ∧ primary 0xC8000000#32 = 0b110010#6 := by decide +kernel

/-- UnknownTagRule, PrimaryErrorRule: the three UNKNOWN values, and the smallest and the largest failing value. -/
theorem test_witness_PrimaryErrorRule :
    (primary 0x7C000000#32 = 0b011111#6 ∧ primary 0xCBFFFFFF#32 = 0b110010#6 ∧ primary 0x73FFFFFF#32 = 0b011100#6) ∧
    ((primary 0x1C000000#32).toNat ∈ primaryErrors ∧ (primary 0xFBFFFFFF#32).toNat ∈ primaryErrors) ∧
    errorTable? (decodeWord 0xFBFFFFFF#32) = some .PRIMARY := by decide +kernel

/-- RegimmTagRules, RegimmErrorRule: the words of the five rules, and failing values at both ends. -/
theorem test_witness_RegimmRules :
    [0x07E3FFFF#32, 0x07F1FFFF#32, 0x07E0FFFF#32, 0x07F0FFFF#32, 0x07E8FFFF#32].map (fun w => (primary w, regimmRt w)) =
      [(1#6, 0b00011#5), (1#6, 0b10001#5), (1#6, 0b00000#5), (1#6, 0b10000#5), (1#6, 0b01000#5)] ∧
    [0x04010000#32, 0x04090000#32, 0x040A0000#32, 0x040B0000#32, 0x040C0000#32, 0x040E0000#32].map
      (fun w => (primary w, (regimmRt w).toNat)) = [(1#6, 1), (1#6, 9), (1#6, 10), (1#6, 11), (1#6, 12), (1#6, 14)] ∧
    ((regimmRt 0x07E1FFFF#32).toNat ∈ regimmErrors ∧ (regimmRt 0x07FFFFFF#32).toNat ∈ regimmErrors) ∧
    errorTable? (decodeWord 0x07FFFFFF#32) = some .REGIMM := by decide +kernel

/-- SpecialRules, SpecialErrorRule: the smallest and the largest word of each of the 23 rules, and failing values. -/
theorem test_witness_SpecialRules :
    functTable.all (fun r => decide (primary (0#6 ++ BitVec.allOnes 20 ++ r.2 : Word) = 0#6) &&
      decide (funct (0#6 ++ BitVec.allOnes 20 ++ r.2 : Word) = r.2) && decide (funct (0#26 ++ r.2 : Word) = r.2)) = true ∧
    [0x00000009#32, 0x00000013#32, 0x00000011#32, 0x00000022#32, 0x00000007#32, 0x00000027#32, 0x00000018#32,
     0x0000001A#32, 0x0000001B#32, 0x0000003C#32, 0x0000000D#32, 0x0000003A#32, 0x0000003B#32].all
      (fun w => decide (primary w = 0#6) && decide ((funct w).toNat ∈ specialErrors)) = true ∧
    ((funct 0x03FFFFC5#32).toNat ∈ specialErrors ∧ (funct 0x03FFFFFD#32).toNat ∈ specialErrors) ∧
    errorTable? (decodeWord 0x03FFFFFD#32) = some .SPECIAL := by decide +kernel

/-- CopZeroRules, CopOneRules, CopTwoRules: each clause at the ends of its range of formats. -/
theorem test_witness_CopRules :
    [0x401FFFFF#32, 0x409FFFFF#32, 0x40200000#32, 0x407FFFFF#32, 0x40A00000#32, 0x43FFFFFF#32].map
      (fun w => (primary w, copFmt w)) = [(16#6, 0#5), (16#6, 4#5), (16#6, 1#5), (16#6, 3#5), (16#6, 5#5), (16#6, 31#5)] ∧
    [0x441FFFFF#32, 0x44200000#32, 0x47FFFFFF#32].map (fun w => (primary w, copFmt w)) =
      [(17#6, 0#5), (17#6, 1#5), (17#6, 31#5)] ∧
    [0x481FFFFF#32, 0x48200000#32, 0x4A1FFFFF#32, 0x4A400000#32, 0x4BFFFFFF#32].map (fun w => (primary w, copFmt w)) =
      [(18#6, 0#5), (18#6, 1#5), (18#6, 16#5), (18#6, 18#5), (18#6, 31#5)] ∧
    [0x4A3FFFE2#32, 0x4A200000#32, 0x4A3FFFFF#32].map (fun w => (primary w, copFmt w, cop2VecOp w)) =
      [(18#6, 17#5, 34#6), (18#6, 17#5, 0#6), (18#6, 17#5, 63#6)] ∧
    (primary 0x03FFFFE2#32 = 0#6 ∧ funct 0x03FFFFE2#32 = 34#6) := by decide +kernel

/-- IgnoredBitsDoNotMatter: two words that differ in every bit their path ignores, for each path. -/
theorem test_witness_IgnoredBitsDoNotMatter :
    (primary 0x24000000#32 = primary 0x27FFFFFF#32 ∧ primary 0x24000000#32 = 9#6) ∧
    (primary 0x00000000#32 = primary 0x03FFFFC0#32 ∧ funct 0x00000000#32 = funct 0x03FFFFC0#32) ∧
    (primary 0x04110000#32 = primary 0x07F1FFFF#32 ∧ regimmRt 0x04110000#32 = regimmRt 0x07F1FFFF#32) ∧
    (primary 0x42000000#32 = primary 0x421FFFFF#32 ∧ copFmt 0x42000000#32 = copFmt 0x421FFFFF#32) ∧
    (primary 0x4A200022#32 = primary 0x4A3FFFE2#32 ∧ copFmt 0x4A200022#32 = copFmt 0x4A3FFFE2#32 ∧
      copFmt 0x4A200022#32 = 17#5 ∧ cop2VecOp 0x4A200022#32 = cop2VecOp 0x4A3FFFE2#32) := by decide +kernel

/-- Maps other than the standard ones: two direct codes exchanged, and a mapped funct code moved to an unmapped one. -/
def otherMaps : CodeMaps where
  primaryCode t := if t = .BNE then 0b000100#6 else if t = .BEQ then 0b000101#6 else standardMaps.primaryCode t
  functCode t := if t = .OR then 0b000101#6 else standardMaps.functCode t

/-- The statements on admissible maps: maps that are not the standard ones meet R61. -/
theorem test_witness_otherMaps_admissible : otherMaps.Admissible where
  primary_injective := by decide +kernel
  primary_unclaimed := by decide +kernel
  primary_addiu := by decide +kernel
  funct_injective := by decide +kernel
  funct_sll := by decide +kernel

/-- AdmissibleMapsKeepTheRules: each clause, under those maps. -/
theorem test_witness_AdmissibleMapsKeepTheRules :
    primary 0x10000000#32 = otherMaps.primaryCode .BNE ∧ funct 0x00000005#32 = otherMaps.functCode .OR ∧
    (∀ t ∈ OpCode.special, funct 0x00000025#32 ≠ otherMaps.functCode t) ∧
    (primary 0xC8000000#32 ∈ CodeMaps.claimed ∧ primary 0xC8000000#32 ≠ 0#6) ∧
    (primary 0x1C000000#32 ∉ CodeMaps.claimed ∧ ∀ t ∈ OpCode.direct, primary 0x1C000000#32 ≠ otherMaps.primaryCode t) := by
  decide +kernel

/-- ClassifierHasTheTestableProperties (with test_witness_otherMaps_admissible): words of (c), (d) and (e) at the ends of
their ranges, two words of one key, and an error and a success of (g). -/
theorem test_witness_ClassifierHasTheTestableProperties :
    (primary 0x27FFFFFF#32 = 0b001001#6) ∧
    (primary 0x041F0000#32 = 0b000001#6 ∧ regimmRt 0x041F0000#32 = 0b11111#5) ∧
    (primary 0x40200000#32 = 0b010000#6 ∧ copFmt 0x40200000#32 ≠ 0b00000#5 ∧ copFmt 0x40200000#32 ≠ 0b00100#5) ∧
    (primary 0x43FFFFFF#32 = 0b010000#6 ∧ copFmt 0x43FFFFFF#32 ≠ 0b00000#5 ∧ copFmt 0x43FFFFFF#32 ≠ 0b00100#5) ∧
    (regimmRt 0x00000000#32 = regimmRt 0xFFE0FFFF#32 ∧ funct 0x00000000#32 = funct 0xFFFFFFC0#32 ∧
      copFmt 0x00000000#32 = copFmt 0xFC1FFFFF#32 ∧ copFmt 0x00000000#32 ≠ 0b10001#5 ∧
      cop2VecOp 0x00000000#32 = cop2VecOp 0xFFFFFFC0#32) ∧
    classifyWith otherMaps 0x041F0000#32 = .error ⟨.REGIMM, 31, 0x041F0000#32⟩ ∧
    decodeWith otherMaps 0x10000000#32 = .ok ⟨.BNE, 0x10000000#32⟩ ∧
    decodeWith otherMaps 0x041F0000#32 = .error ⟨.REGIMM, 31, 0x041F0000#32⟩ := by
  decide +kernel

/-- ArmOrderDoesNotMatter: an order of the arms that is not the listed one. -/
theorem test_witness_ArmOrderDoesNotMatter : (topArms otherMaps).reverse.Perm (topArms otherMaps) :=
  List.reverse_perm _

/-- PortsCarryTheResult: a state whose result is a success and one whose result is a failure. -/
theorem test_witness_PortsCarryTheResult :
    (midway.Inv ∧ midway.result = .ok ⟨.SLL, 0#32⟩) ∧
    (failed.Inv ∧ failed.result = .error ⟨.PRIMARY, 39, 0x9C000000#32⟩) :=
  ⟨⟨test_midway_inv, rfl⟩, test_failed_inv, rfl⟩

/-- EncodedPortsDetermineTheResult: some TAG_ENC and TABLE_ENC (not those of D5). -/
def otherCodes : PortCodes 8 4 where
  tagEnc t := BitVec.ofNat 8 (255 - OpCode.all.idxOf t)
  tableEnc t := BitVec.ofNat 4 (match t with
    | .PRIMARY => 9 | .SPECIAL => 8 | .REGIMM => 7 | .COP1 => 6 | .COP2 => 5 | .COP2VEC => 4)
  tag_width := by decide
  table_width := by decide
  tag_injective a b h := by
    have hl : ∀ t : OpCode, OpCode.all.idxOf t < 64 := by intro t; cases t <;> decide
    have ha := hl a
    have hb := hl b
    have e : OpCode.all.idxOf a = OpCode.all.idxOf b := by
      rw [← BitVec.toNat_inj] at h
      simp only [BitVec.toNat_ofNat] at h
      omega
    exact (List.idxOf_inj (by cases a <;> decide)).1 e
  table_injective a b h := by
    revert h; cases a <;> cases b <;> decide

theorem test_witness_EncodedPortsDetermineTheResult :
    (portsOf 0#32 (decodeWord 0#32)).encode otherCodes = (portsOf 0#32 (decodeWord 0#32)).encode otherCodes ∧
    (∀ e, decodeWord 0xFBFFFFFF#32 = .error e → e.fieldValue < 64) ∧ (∃ e, decodeWord 0xFBFFFFFF#32 = .error e) ∧
    (∃ i, decodeWord 0x00000000#32 = .ok i) := by
  have h : decodeWord 0xFBFFFFFF#32 = .error ⟨.PRIMARY, 62, 0xFBFFFFFF#32⟩ := by decide +kernel
  refine ⟨rfl, ?_, ⟨_, h⟩, ⟨.SLL, 0x00000000#32⟩, by decide +kernel⟩
  intro e he
  rw [h] at he
  cases he
  decide

/-- HeaderReadAtFixedOffsets: header stages of 63 and of 64 bytes. -/
theorem test_witness_HeaderReadAtFixedOffsets :
    ((State.load (List.replicate 63 0#8)).stage = .header ∧ (State.load (List.replicate 63 0#8)).imageLen < 64) ∧
    ((State.load (List.replicate 64 0#8)).stage = .header ∧ 64 ≤ (State.load (List.replicate 64 0#8)).imageLen) := by
  refine ⟨⟨rfl, ?_⟩, rfl, ?_⟩ <;> decide

/-- InsufficientDataExactly: the bootcode stage of a buffer one byte short, and of 64 bytes. -/
theorem test_witness_InsufficientDataExactly :
    ((started 4095).Inv ∧ (started 4095).imageLen < 0x40 + 1008 * 4 ∧
      step (started 4095) = .fault (.insufficientData .bootcode)) ∧
    ((started 64).Inv ∧ step (started 64) = .fault (.insufficientData .bootcode)) ∧
    ((started 4096).Inv ∧ ∃ t, step (started 4096) = .next t) :=
  ⟨⟨test_started_inv (by decide), by decide, rfl⟩, ⟨test_started_inv (by decide), rfl⟩,
    test_started_inv (by decide), _, rfl⟩

/-- ShortImageFails, WholeImageRun: images of 0, 63, 64, 4095 and of 4096 bytes. -/
theorem test_witness_images :
    (([] : List Byte).length < 4096 ∧ (headerBytes61.take 63).length < 64 ∧ headerBytes61.length = 64 ∧
      (List.replicate 4095 0xFF#8).length < 4096) ∧ 4096 ≤ (List.replicate 4096 0xFF#8).length := by
  simp only [List.length_replicate]
  decide

/-- ExtractorRun: from the first word to the last, and the last word alone. -/
theorem test_witness_ExtractorRun :
    ((started 4096).stage = .bootcode ∧ Config.bootBlockBytes ≤ (started 4096).imageLen ∧
      (started 4096).pos = wordOffset 0 ∧ 0 + 1008 ≤ Config.bootcodeWords) ∧
    ({ started 4096 with pos := 0xFFC }.pos = wordOffset 1007 ∧ 1007 + 1 ≤ Config.bootcodeWords) := by
  refine ⟨⟨rfl, ?_, rfl, ?_⟩, rfl, ?_⟩ <;> decide

/-- FailuresAreReportedByOffset: a state with a failure and a success, whose report is the failure at 0x40. -/
theorem test_witness_FailuresAreReportedByOffset :
    midway.Inv ∧ midway.failures = [(0x40, ⟨.PRIMARY, 39, 0x9C000000#32⟩)] :=
  ⟨test_midway_inv, by decide +kernel⟩

/-- AfterTheHeaderNothingFails (and test_witness_ended, which is also CompletedRunStays's). -/
theorem test_witness_AfterTheHeaderNothingFails :
    midway.Inv ∧ midway.stage ≠ .header ∧ Config.bootBlockBytes ≤ midway.imageLen :=
  ⟨test_midway_inv, by decide, by decide⟩

/-- NothingReadBeyondTheBootBlock: a longer buffer with a byte at 0x1000. -/
theorem test_witness_NothingReadBeyondTheBootBlock :
    (∀ a < 0x1000, Memory.read [(0x40, 0x9C#8), (0x1000, 1#8)] a = midway.image.read a) ∧
    min 4196 0x1000 = min midway.imageLen 0x1000 := by
  refine ⟨fun a ha => ?_, by decide⟩
  simp only [midway, Memory.read]
  split
  · rfl
  · rw [if_neg (by omega)]

/-- PlacedWordRunsNext: canonical buffers, after reset and midway. -/
theorem test_witness_PlacedWordRunsNext : State.reset.image.wf ∧ midway.image.wf ∧
    State.reset.fetchOffset = 0x40 ∧ midway.fetchOffset = 0x48 := by decide


end Sys2Proof.Tests
end

section
/-! PROOFS. The block: every instruction's meaning is a result on the input word, and the result of a word's decoding is
the word's classification (R71, R76). -/

namespace Sys2Proof.Machine

/-! ### What an instruction answers -/

/-- The result an instruction gives on a word, as `exec` computes it. -/
def answer (i : Instr) (w : Word) : DecodeResult :=
  match exec i (State.reset.present w) with
  | .next t => t.result
  | _ => State.reset.result

/-- R7, R205, R211: every instruction completes, reads the input word only, and writes the result only. -/
theorem exec_eq (i : Instr) (s : State) : exec i s = .next { s with result := answer i s.word } := by
  cases i <;> rfl

/-! ### The classifier, table by table -/

theorem decodeWith_eq_map (m : CodeMaps) (w : Word) :
    decodeWith m w = (classifyWith m w).map (Instruction.mk · w) := by
  unfold decodeWith
  cases classifyWith m w <;> rfl

theorem classifySpecial_of_some {m : CodeMaps} {w : Word} {t : OpCode} (h : m.specialOf? (funct w) = some t) :
    classifySpecial m w = .ok t := by
  simp only [classifySpecial, h]

theorem classifySpecial_of_none {m : CodeMaps} {w : Word} (h : m.specialOf? (funct w) = none) :
    classifySpecial m w = .error ⟨.SPECIAL, (funct w).toNat, w⟩ := by
  simp only [classifySpecial, h]

theorem classifyWith_of_direct {m : CodeMaps} {w : Word} {t : OpCode} (h : m.directOf? (primary w) = some t) :
    classifyWith m w = .ok t := by
  simp only [classifyWith, h]

theorem classifyRegimm_error {w : Word} {e : DecodeError} (h : classifyRegimm w = .error e) :
    e = ⟨.REGIMM, (regimmRt w).toNat, w⟩ := by
  grind [classifyRegimm]

theorem classifySpecial_error {m : CodeMaps} {w : Word} {e : DecodeError} (h : classifySpecial m w = .error e) :
    e = ⟨.SPECIAL, (funct w).toNat, w⟩ := by
  grind [classifySpecial]

/-- R173: COP0 never fails. -/
theorem classifyCop0_ne_error (w : Word) (e : DecodeError) : classifyCop0 w ≠ .error e := by
  grind [classifyCop0]

theorem classifyCop1_error {w : Word} {e : DecodeError} (h : classifyCop1 w = .error e) :
    e = ⟨.COP1, (copFmt w).toNat, w⟩ := by
  grind [classifyCop1]

theorem classifyCop2Vec_error {w : Word} {e : DecodeError} (h : classifyCop2Vec w = .error e) :
    e = ⟨.COP2VEC, (cop2VecOp w).toNat, w⟩ := by
  grind [classifyCop2Vec]

theorem classifyCop2_error {w : Word} {e : DecodeError} (h : classifyCop2 w = .error e) :
    e = ⟨.COP2, (copFmt w).toNat, w⟩ ∨ e = ⟨.COP2VEC, (cop2VecOp w).toNat, w⟩ := by
  grind [classifyCop2, classifyCop2Vec_error]

/-- R72, R192: an error names its table, carries the unsigned value of that table's key field, and the word. -/
theorem classifyWith_error {m : CodeMaps} {w : Word} {e : DecodeError} (h : classifyWith m w = .error e) :
    e = ⟨.REGIMM, (regimmRt w).toNat, w⟩ ∨ e = ⟨.SPECIAL, (funct w).toNat, w⟩ ∨
    e = ⟨.COP1, (copFmt w).toNat, w⟩ ∨ e = ⟨.COP2, (copFmt w).toNat, w⟩ ∨
    e = ⟨.COP2VEC, (cop2VecOp w).toNat, w⟩ ∨ e = ⟨.PRIMARY, (primary w).toNat, w⟩ := by
  simp only [classifyWith] at h
  split at h
  · cases h
  · split_ifs at h
    · exact .inl (classifyRegimm_error h)
    · exact .inr (.inl (classifySpecial_error h))
    · exact absurd h (classifyCop0_ne_error w e)
    · exact .inr (.inr (.inl (classifyCop1_error h)))
    · obtain rfl | rfl := classifyCop2_error h <;> simp
    · cases h; simp

/-- R76: a classification fails exactly as its word's decoding does. -/
theorem decodeWord_eq_error_iff {w : Word} {e : DecodeError} : decodeWord w = .error e ↔ classify w = .error e := by
  rw [decodeWord, decodeWith_eq_map, ← classify]
  cases classify w <;> simp [Except.map]

theorem decodeWord_ok_word {w : Word} {i : Instruction} (h : decodeWord w = .ok i) : i.word = w := by
  rw [decodeWord, decodeWith_eq_map] at h
  cases hc : classifyWith standardMaps w with
  | ok t => rw [hc] at h; cases h; rfl
  | error e => rw [hc] at h; cases h

/-- R192: an error carries its word, and its field value fits the 6 wires of port `err_field`. -/
theorem decodeWord_error {w : Word} {e : DecodeError} (h : decodeWord w = .error e) :
    e.word = w ∧ e.fieldValue < 64 := by
  obtain rfl | rfl | rfl | rfl | rfl | rfl := classifyWith_error (decodeWord_eq_error_iff.1 h) <;>
    exact ⟨rfl, by dsimp only; omega⟩

/-! ### Dispatch on the primary value -/

/-- The primary values that a sub-table decides (R71 steps 3 to 7). -/
def delegatedPrimaries : List (BitVec 6) := [0b000000#6, 0b000001#6, 0b010000#6, 0b010001#6, 0b010010#6]

theorem directOf?_delegated : ∀ p ∈ delegatedPrimaries, standardMaps.directOf? p = none := by decide

/-- R50: a funct value outside the SPECIAL map belongs to no mnemonic. -/
theorem specialOf?_unmapped : ∀ f : BitVec 6, f ∉ functTable.map Prod.snd → standardMaps.specialOf? f = none := by
  decide +kernel

/-- R49: a primary value outside the primary map belongs to no mnemonic. -/
theorem directOf?_unmapped : ∀ p : BitVec 6, p ∉ primaryTable.map Prod.snd → standardMaps.directOf? p = none := by
  decide +kernel

variable {w : Word}

theorem classify_of_special (h : primary w = 0b000000#6) : classify w = classifySpecial standardMaps w := by
  simp [classify, classifyWith, h, directOf?_delegated 0b000000#6 (by decide)]

theorem classify_of_regimm (h : primary w = 0b000001#6) : classify w = classifyRegimm w := by
  simp [classify, classifyWith, h, directOf?_delegated 0b000001#6 (by decide)]

theorem classify_of_cop0 (h : primary w = 0b010000#6) : classify w = classifyCop0 w := by
  simp [classify, classifyWith, h, directOf?_delegated 0b010000#6 (by decide)]

theorem classify_of_cop1 (h : primary w = 0b010001#6) : classify w = classifyCop1 w := by
  simp [classify, classifyWith, h, directOf?_delegated 0b010001#6 (by decide)]

theorem classify_of_cop2 (h : primary w = 0b010010#6) : classify w = classifyCop2 w := by
  simp [classify, classifyWith, h, directOf?_delegated 0b010010#6 (by decide)]

/-- R71 step 8. -/
theorem classify_of_unknown (h : primary w ∈ unknownPrimaries.map (BitVec.ofNat 6)) : classify w = .ok .UNKNOWN := by
  have hp : primary w = 31#6 ∨ primary w = 50#6 ∨ primary w = 28#6 := by simpa [unknownPrimaries] using h
  have hd : ∀ p : BitVec 6, p = 31#6 ∨ p = 50#6 ∨ p = 28#6 → standardMaps.directOf? p = none := by decide
  obtain h | h | h := hp <;> simp [classify, classifyWith, h, hd]

/-- R71 step 9. -/
theorem classify_of_unmapped (hd : primary w ∉ primaryTable.map Prod.snd) (hc : primary w ∉ CodeMaps.claimed) :
    classify w = .error ⟨.PRIMARY, (primary w).toNat, w⟩ := by
  simp_all [classify, classifyWith, directOf?_unmapped, CodeMaps.claimed]

/-! ### The decoder, table by table -/

theorem answer_decodeSpecial (x : BitVec 20) :
    answer (decodeSpecial (funct w) x) w = (classifySpecial standardMaps w).map (Instruction.mk · w) := by
  unfold decodeSpecial
  split
  case h_24 =>
    have hf : funct w ∉ functTable.map Prod.snd := by simp_all [functTable]
    rw [classifySpecial_of_none (specialOf?_unmapped _ hf)]; rfl
  all_goals
    rename_i hf
    rw [classifySpecial_of_some (by rw [hf]; rfl)]; rfl

theorem answer_decodeRegimm (hi : BitVec 5) (lo : BitVec 16) :
    answer (decodeRegimm (regimmRt w) hi lo) w = (classifyRegimm w).map (Instruction.mk · w) := by
  unfold decodeRegimm
  split <;> simp_all [classifyRegimm] <;> rfl

theorem answer_decodeCop0 (x : BitVec 21) :
    answer (decodeCop0 (copFmt w) x) w = (classifyCop0 w).map (Instruction.mk · w) := by
  unfold decodeCop0
  split <;> simp_all [classifyCop0] <;> rfl

theorem answer_decodeCop1 (x : BitVec 21) :
    answer (decodeCop1 (copFmt w) x) w = (classifyCop1 w).map (Instruction.mk · w) := by
  unfold decodeCop1
  split <;> simp_all [classifyCop1] <;> rfl

theorem answer_decodeCop2Vec (x : BitVec 15) :
    answer (decodeCop2Vec (cop2VecOp w) x) w = (classifyCop2Vec w).map (Instruction.mk · w) := by
  unfold decodeCop2Vec
  split <;> simp_all [classifyCop2Vec] <;> rfl

theorem answer_decodeCop2 :
    answer (decodeCop2 (copFmt w) w) w = (classifyCop2 w).map (Instruction.mk · w) := by
  unfold decodeCop2
  split
  · simp_all [classifyCop2]; rfl
  · simp_all [classifyCop2, answer_decodeCop2Vec]
  · simp_all [classifyCop2]; rfl

/-- The primary values no sub-table decides: a mnemonic, UNKNOWN (R190) or the PRIMARY error (R191). -/
theorem answer_decodePrimary (x : BitVec 26) (h : primary w ∉ delegatedPrimaries) :
    answer (decodePrimary (primary w) x) w = (classify w).map (Instruction.mk · w) := by
  unfold decodePrimary
  split
  case h_34 =>
    have hd : primary w ∉ primaryTable.map Prod.snd := by simp_all [primaryTable]
    have hc : primary w ∉ CodeMaps.claimed := by simp_all [CodeMaps.claimed, delegatedPrimaries]
    rw [classify_of_unmapped hd hc]; rfl
  case h_18 hp | h_19 hp | h_30 hp =>
    rw [classify_of_unknown (by rw [hp]; decide)]; rfl
  all_goals
    rename_i hp
    rw [classify, classifyWith_of_direct (by rw [hp]; rfl)]; rfl

/-- R71, R76: on the word it was decoded from, an instruction answers the word's classification. -/
theorem answer_decode (w : Word) : answer (decode w) w = decodeWord w := by
  rw [decodeWord, decodeWith_eq_map, ← classify]
  unfold decode
  split
  · rw [classify_of_special ‹_›, answer_decodeSpecial]
  · rw [classify_of_regimm ‹_›, answer_decodeRegimm]
  · rw [classify_of_cop0 ‹_›, answer_decodeCop0]
  · rw [classify_of_cop1 ‹_›, answer_decodeCop1]
  · rw [classify_of_cop2 ‹_›, answer_decodeCop2]
  · exact answer_decodePrimary _ (by simp_all [delegatedPrimaries])

/-- R8, R76: one evaluation puts the word on the input port and its classification on the outputs; nothing else
changes. -/
theorem evaluate_eq (w : Word) (s : State) :
    evaluate w s = .next { s with word := w, result := decodeWord w } := by
  rw [evaluate, exec_eq, State.present_word, answer_decode]; rfl

end Sys2Proof.Machine
end

section
/-! PROOFS. Every step keeps the invariant. -/

namespace Sys2Proof.Machine

/-! ### What a step can do -/

theorem step_of_bootcode {s : State} (h : s.stage = .bootcode) :
    step s = if Config.bootBlockBytes ≤ s.imageLen ∧ s.pos + 4 ≤ Config.bootBlockBytes
      then .next { s with
        word := s.image.wordAt s.pos, result := decodeWord (s.image.wordAt s.pos) : State }.collect
      else .fault (.insufficientData .bootcode) := by
  by_cases hb : Config.bootBlockBytes ≤ s.imageLen ∧ s.pos + 4 ≤ Config.bootBlockBytes
  · simp only [step, h, State.fetchWord_eq, if_pos hb, evaluate_eq]; rfl
  · simp only [step, h, State.fetchWord_eq, if_neg hb]

/-- All a step can do if it answers a next state (R222, R227): the header is read, or one word of the bootcode is
classified and collected, or the run has ended. -/
theorem step_next {s t : State} (h : step s = .next t) :
    (s.stage = .header ∧ s.readHeader = .next t) ∨
    (s.stage = .bootcode ∧ Config.bootBlockBytes ≤ s.imageLen ∧ s.pos + 4 ≤ Config.bootBlockBytes ∧
      t = { s with
        word := s.image.wordAt s.pos, result := decodeWord (s.image.wordAt s.pos) : State }.collect) ∨
    (s.stage = .complete ∧ t = s) := by
  cases hs : s.stage with
  | header => exact .inl ⟨rfl, by simpa only [step, hs] using h⟩
  | bootcode =>
    rw [step_of_bootcode hs] at h
    split at h
    next hb => exact .inr (.inl ⟨rfl, hb.1, hb.2, by cases h; rfl⟩)
    next => cases h
  | complete =>
    simp only [step, hs] at h
    exact .inr (.inr ⟨rfl, by cases h; rfl⟩)

/-! ### The clauses of the invariant -/

theorem stageOk_of_header {s : State} (h : s.stage = .header) :
    s.StageOk ↔ s.pos = 0 ∧ s.header = none ∧ s.results = [] := by
  simp only [State.StageOk, h]

theorem stageOk_of_bootcode {s : State} (h : s.stage = .bootcode) :
    s.StageOk ↔ s.pos = wordOffset s.results.length ∧ s.results.length < Config.bootcodeWords ∧
      s.header = some (headerOf s.image) ∧ Config.headerBytes ≤ s.imageLen ∧
      (s.results = [] ∨ Config.bootBlockBytes ≤ s.imageLen) := by
  simp only [State.StageOk, h]

theorem stageOk_of_complete {s : State} (h : s.stage = .complete) :
    s.StageOk ↔ s.pos = Config.bootBlockBytes ∧ s.results.length = Config.bootcodeWords ∧
      s.header = some (headerOf s.image) ∧ Config.bootBlockBytes ≤ s.imageLen := by
  simp only [State.StageOk, h]

@[simp] theorem expectedResults_zero (m : Memory) : expectedResults m 0 = [] := rfl

theorem expectedResults_succ (m : Memory) (n : Nat) :
    expectedResults m (n + 1) = expectedResults m n ++ [decodeWord (m.wordAt (wordOffset n))] := by
  simp [expectedResults, List.range_succ]

/-! ### The two steps that change the state -/

theorem readHeader_keeps_inv {s t : State} (hs : s.stage = .header) (hinv : s.Inv) (h : s.readHeader = .next t) :
    t.Inv := by
  obtain ⟨hlen, -, rfl⟩ := s.readHeader_next h
  obtain ⟨-, -, hres⟩ := (stageOk_of_header hs).1 hinv.stage_ok
  exact
    { hinv with
      stage_ok := (stageOk_of_bootcode rfl).2 (by simp [hres, hlen, wordOffset]) }

/-- Where the stream is after a word: before another word of the boot block, or at its end (R25, R227). -/
theorem collect_stageOk {s : State} (hs : s.stage = .bootcode) (hok : s.StageOk)
    (hlen : Config.bootBlockBytes ≤ s.imageLen) : s.collect.StageOk := by
  obtain ⟨hpos, hn, hhead, hmin, -⟩ := (stageOk_of_bootcode hs).1 hok
  have hpos' : s.pos = 0x40 + 4 * s.results.length := hpos
  have hn' : s.results.length < 1008 := hn
  have hcount : s.collect.results.length = s.results.length + 1 := by simp
  by_cases hend : 0x1000 ≤ s.pos + 4
  · refine (stageOk_of_complete (if_pos hend)).2 ⟨?_, ?_, hhead, hlen⟩
    · show s.pos + 4 = 0x1000
      omega
    · show s.collect.results.length = 1008
      omega
  · refine (stageOk_of_bootcode (if_neg hend)).2 ⟨?_, ?_, hhead, hmin, .inr hlen⟩
    · show s.pos + 4 = 0x40 + 4 * s.collect.results.length
      omega
    · show s.collect.results.length < 1008
      omega

/-- Collecting the classification of the word at the stream position keeps the invariant. -/
theorem collect_keeps_inv {s : State} (hs : s.stage = .bootcode) (hinv : s.Inv)
    (hlen : Config.bootBlockBytes ≤ s.imageLen) (hword : s.word = s.image.wordAt s.pos) : s.collect.Inv := by
  obtain ⟨hpos, -⟩ := (stageOk_of_bootcode hs).1 hinv.stage_ok
  have hres : s.result = decodeWord (s.image.wordAt (wordOffset s.results.length)) := by
    rw [hinv.combinational, hword, hpos]
  exact
    { hinv with
      results_eq := by
        rw [State.collect_results, List.length_append, List.length_singleton, State.collect_image,
          expectedResults_succ, ← hinv.results_eq, hres]
      stage_ok := collect_stageOk hs hinv.stage_ok hlen }

/-- Classifying any word keeps the invariant: the block writes its own ports only (R10). -/
theorem classified_inv {s : State} (w : Word) (hinv : s.Inv) :
    { s with word := w, result := decodeWord w : State }.Inv :=
  { hinv with combinational := rfl }

/-- Settles O3, by the three things a step can do. -/
theorem stepKeepsInvariant : Obligations.StepKeepsInvariant := by
  intro s t hinv h
  obtain ⟨hs, hread⟩ | ⟨hs, hlen, -, rfl⟩ | ⟨-, rfl⟩ := step_next h
  · exact readHeader_keeps_inv hs hinv hread
  · exact collect_keeps_inv hs (classified_inv _ hinv) hlen rfl
  · exact hinv

end Sys2Proof.Machine
end

section
/-! PROOFS. The ports and the result they carry (R19). -/

namespace Sys2Proof.Machine

/-! ### The ports of a success and of a failure -/

@[simp] theorem portsOf_word (w : Word) (r : DecodeResult) : (portsOf w r).word = w := by
  cases r <;> rfl

@[simp] theorem portsOf_ok (w : Word) (i : Instruction) :
    portsOf w (.ok i) = ⟨w, true, i.opcode, Config.idleErrTable w, Config.idleErrField w, i.word⟩ := rfl

@[simp] theorem portsOf_error (w : Word) (e : DecodeError) :
    portsOf w (.error e) = ⟨w, false, Config.idleTag w, e.table, BitVec.ofNat 6 e.fieldValue, e.word⟩ := rfl

/-- Settles O36: a success and a failure each carry their own outputs; a failure's field value fits its six wires. -/
theorem portsCarryTheResult : Obligations.PortsCarryTheResult := by
  intro s hinv
  have hres := hinv.combinational
  cases hd : decodeWord s.word with
  | ok i =>
    rw [hd] at hres
    simp [State.ports, hres, decodeWord_ok_word hd]
  | error e =>
    rw [hd] at hres
    obtain ⟨hword, hfield⟩ := decodeWord_error hd
    simp [State.ports, hres, hword, Nat.mod_eq_of_lt hfield]

/-! ### Encoded ports -/

/-- Two results of one word that give the same encoded ports are equal, if their field values fit the six wires. -/
theorem encode_portsOf_injective {a b : Nat} (c : PortCodes a b) (w : Word) {r₁ r₂ : DecodeResult}
    (h₁ : ∀ e, r₁ = .error e → e.fieldValue < 64) (h₂ : ∀ e, r₂ = .error e → e.fieldValue < 64)
    (h : (portsOf w r₁).encode c = (portsOf w r₂).encode c) : r₁ = r₂ := by
  cases r₁ with
  | ok i₁ =>
    cases r₂ with
    | ok i₂ =>
      obtain ⟨tag₁, word₁⟩ := i₁
      obtain ⟨tag₂, word₂⟩ := i₂
      obtain ⟨htag, rfl⟩ : c.tagEnc tag₁ = c.tagEnc tag₂ ∧ word₁ = word₂ := by
        simpa [Ports.encode] using h
      rw [c.tag_injective _ _ htag]
    | error e₂ => simp [Ports.encode] at h
  | error e₁ =>
    cases r₂ with
    | ok i₂ => simp [Ports.encode] at h
    | error e₂ =>
      have hv₁ := h₁ e₁ rfl
      have hv₂ := h₂ e₂ rfl
      obtain ⟨table₁, v₁, word₁⟩ := e₁
      obtain ⟨table₂, v₂, word₂⟩ := e₂
      obtain ⟨htable, hfield, rfl⟩ : c.tableEnc table₁ = c.tableEnc table₂ ∧
          BitVec.ofNat 6 v₁ = BitVec.ofNat 6 v₂ ∧ word₁ = word₂ := by simpa [Ports.encode] using h
      have hv : v₁ = v₂ := by
        have := congrArg BitVec.toNat hfield
        simp only [BitVec.toNat_ofNat] at *
        omega
      rw [c.table_injective _ _ htable, hv]

theorem mem_opCodeAll (t : OpCode) : t ∈ OpCode.all := by
  cases t <;> decide

theorem suggestedTagEnc_injective {x y : OpCode} (h : suggestedTagEnc x = suggestedTagEnc y) : x = y := by
  have hlt : ∀ t, OpCode.all.idxOf t < 64 := fun t => List.idxOf_lt_length_of_mem (mem_opCodeAll t)
  have hidx : OpCode.all.idxOf x = OpCode.all.idxOf y := by
    have := congrArg BitVec.toNat h
    have := hlt x
    have := hlt y
    simp only [suggestedTagEnc, BitVec.toNat_ofNat] at *
    omega
  exact (List.idxOf_inj (mem_opCodeAll x)).1 hidx

/-- The code of a table name is its place in the list of R16. -/
theorem getElem?_suggestedTableEnc (x : TableName) :
    [TableName.PRIMARY, .SPECIAL, .REGIMM, .COP1, .COP2, .COP2VEC][(suggestedTableEnc x).toNat]? = some x := by
  cases x <;> rfl

theorem suggestedTableEnc_injective {x y : TableName} (h : suggestedTableEnc x = suggestedTableEnc y) : x = y := by
  have hx := getElem?_suggestedTableEnc x
  rw [h, getElem?_suggestedTableEnc y] at hx
  exact (Option.some.inj hx).symm

/-- Settles O37: the port `word` tells the words apart, and then the codes tell the results apart. -/
theorem encodedPortsDetermineTheResult : Obligations.EncodedPortsDetermineTheResult := by
  refine ⟨fun a b c w₁ w₂ h => ?_, fun a b c w _ _ => encode_portsOf_injective c w, fun a b c w => ⟨?_, ?_⟩,
    fun _ _ => suggestedTagEnc_injective, fun _ _ => suggestedTableEnc_injective⟩
  · have hw : w₁ = w₂ := by simpa [Ports.encode] using congrArg EncodedPorts.word h
    exact ⟨hw, congrArg decodeWord hw⟩
  · intro i hi; simp [hi, Ports.encode]
  · intro e he; simp [he, Ports.encode]

end Sys2Proof.Machine
end

section
/-! PROOFS. The decoder undoes the encoder: decoding by format, the key fields a term may carry, and the constructors
one format at a time (R48 to R54). -/

namespace Sys2Proof.Machine

/-! ### Decoding a word put together in each format -/

theorem decode_formatP {p : BitVec 6} (x : BitVec 26) (h : p ∉ delegatedPrimaries) :
    decode (p ++ x) = decodePrimary p x := by
  unfold decode
  rw [primary_formatP, low_formatP]
  split
  case h_6 => rfl
  all_goals exact absurd (by decide) h

theorem decode_formatS (x : BitVec 20) (f : BitVec 6) : decode (0b000000#6 ++ x ++ f) = decodeSpecial f x := by
  simp [decode]

theorem decode_formatR (hi rt : BitVec 5) (lo : BitVec 16) :
    decode (0b000001#6 ++ hi ++ rt ++ lo) = decodeRegimm rt hi lo := by
  simp [decode]

theorem decode_cop0 (fmt : BitVec 5) (x : BitVec 21) : decode (0b010000#6 ++ fmt ++ x) = decodeCop0 fmt x := by
  simp [decode]

theorem decode_cop1 (fmt : BitVec 5) (x : BitVec 21) : decode (0b010001#6 ++ fmt ++ x) = decodeCop1 fmt x := by
  simp [decode]

theorem decode_cop2 (fmt : BitVec 5) (x : BitVec 21) :
    decode (0b010010#6 ++ fmt ++ x) = decodeCop2 fmt (0b010010#6 ++ fmt ++ x) := by
  simp [decode]

theorem decode_formatV (x : BitVec 15) (op : BitVec 6) :
    decode (0b010010#6 ++ 0b10001#5 ++ x ++ op) = decodeCop2Vec op x := by
  simp only [decode, primary_formatV, copFmt_formatV, decodeCop2, cop2VecOp_formatV, mid_formatV]

/-! ### Decoding the key field of a well-formed term -/

theorem unknownPrimary_not_delegated :
    ∀ p : BitVec 6, primaryErrors.contains p.toNat = true → p ∉ delegatedPrimaries := by decide

theorem unknown_not_delegated :
    ∀ p : BitVec 6, unknownPrimaries.contains p.toNat = true → p ∉ delegatedPrimaries := by decide

theorem unknownPrimaries_cases :
    ∀ p : BitVec 6, unknownPrimaries.contains p.toNat = true → p = 31#6 ∨ p = 50#6 ∨ p = 28#6 := by decide

variable {p op f : BitVec 6} {rt fmt : BitVec 5}

/-- R190. -/
theorem decodePrimary_unknown (x : BitVec 26) (h : unknownPrimaries.contains p.toNat = true) :
    decodePrimary p x = .unknown p x := by
  obtain rfl | rfl | rfl := unknownPrimaries_cases p h <;> rfl

/-- R191. -/
theorem decodePrimary_error (x : BitVec 26) (h : primaryErrors.contains p.toNat = true) :
    decodePrimary p x = .unknownPrimary p x := by
  unfold decodePrimary
  split
  case h_34 => rfl
  all_goals exact absurd h (by decide)

/-- R164. -/
theorem decodeSpecial_error (x : BitVec 20) (h : specialErrors.contains f.toNat = true) :
    decodeSpecial f x = .unknownSpecial f x := by
  unfold decodeSpecial
  split
  case h_24 => rfl
  all_goals exact absurd h (by decide)

/-- R136. -/
theorem decodeRegimm_error (hi : BitVec 5) (lo : BitVec 16) (h : regimmErrors.contains rt.toNat = true) :
    decodeRegimm rt hi lo = .unknownRegimm rt hi lo := by
  unfold decodeRegimm
  split
  case h_6 => rfl
  all_goals exact absurd h (by decide)

/-- R173. -/
theorem decodeCop0_fallback (x : BitVec 21) (h : (fmt != 0b00000#5 && fmt != 0b00100#5) = true) :
    decodeCop0 fmt x = .mfc0Fallback fmt x := by
  unfold decodeCop0
  split
  case h_3 => rfl
  all_goals exact absurd h (by decide)

/-- R178. -/
theorem decodeCop1_error (x : BitVec 21) (h : (fmt != 0b00000#5) = true) : decodeCop1 fmt x = .unknownCop1 fmt x := by
  unfold decodeCop1
  split
  case h_2 => rfl
  all_goals exact absurd h (by decide)

/-- R185. -/
theorem decodeCop2_error (w : Word) (h : (fmt != 0b00000#5 && fmt != 0b10001#5) = true) :
    decodeCop2 fmt w = .unknownCop2 fmt (w.extractLsb' 0 21) := by
  unfold decodeCop2
  split
  case h_3 => rfl
  all_goals exact absurd h (by decide)

/-- R184. -/
theorem decodeCop2Vec_error (x : BitVec 15) (h : (op != 0b100010#6) = true) :
    decodeCop2Vec op x = .unknownCop2Vec op x := by
  unfold decodeCop2Vec
  split
  case h_2 => rfl
  all_goals exact absurd h (by decide)

/-! ### All constructors -/

/-- Decoding an encoded well-formed instruction, one format at a time: the format gives the table (R49), and the key
field the constructor. -/
theorem decode_encode {i : Instr} (h : i.wf = true) : decode (encode i) = i := by
  cases i with
  | addiu x | bne x | lui x | lw x | sw x | ori x | beq x | jal x | addi x | andi x | sltiu x | cache x | bnel x
  | slti x | beql x | blezl x | sb x | lbu x | xori x | j x | lb x | lwc1 x | lh x | sc x | scd x | lwl x | daddi x
  | ll x | blez x | sd x => exact decode_formatP x (by decide)
  | unknown p x => exact (decode_formatP x (unknown_not_delegated p h)).trans (decodePrimary_unknown x h)
  | unknownPrimary p x => exact (decode_formatP x (unknownPrimary_not_delegated p h)).trans (decodePrimary_error x h)
  | bgezl hi lo | bgezal hi lo | bltz hi lo | bltzal hi lo | tgei hi lo => exact decode_formatR hi _ lo
  | unknownRegimm rt hi lo => exact (decode_formatR hi rt lo).trans (decodeRegimm_error hi lo h)
  | sll x | or x | and x | add x | slt x | sltu x | jr x | mflo x | addu x | subu x | srlv x | sllv x | xor x | srl x
  | multu x | movci x | dsra32 x | mfhi x | sra x | syscall x | sync x | dsll x | dsrl32 x => exact decode_formatS x _
  | unknownSpecial f x => exact (decode_formatS x f).trans (decodeSpecial_error x h)
  | mfc0 x | mtc0 x => exact decode_cop0 _ x
  | mfc0Fallback fmt x => exact (decode_cop0 fmt x).trans (decodeCop0_fallback x h)
  | mfc1 x => exact decode_cop1 _ x
  | unknownCop1 fmt x => exact (decode_cop1 fmt x).trans (decodeCop1_error x h)
  | mfc2 x => exact (decode_cop2 0b00000#5 x).trans (congrArg Instr.mfc2 (low_formatC _ _ x))
  | unknownCop2 fmt x =>
    calc decode (encode (.unknownCop2 fmt x))
      _ = decodeCop2 fmt (0b010010#6 ++ fmt ++ x) := decode_cop2 fmt x
      _ = .unknownCop2 fmt x := by rw [decodeCop2_error _ h, low_formatC]
  | vne x => exact decode_formatV x _
  | unknownCop2Vec op x => exact (decode_formatV x op).trans (decodeCop2Vec_error x h)

theorem decodeBytes_encodeBytes (i : Instr) (rest : List Byte) :
    decodeBytes (encodeBytes i ++ rest) = .ok (decode (encode i), rest) := by
  rw [decodeBytes, encodeBytes, nextWord_bytesOfWord]

/-- Settles O6, from the word's own round trip. -/
theorem decodeOfEncode : Obligations.DecodeOfEncode := by
  intro i h
  refine ⟨decode_encode h, fun rest => ?_⟩
  rw [decodeBytes_encodeBytes, decode_encode h]

end Sys2Proof.Machine
end

section
/-! PROOFS. The byte buffer and its fields: an image's buffer is canonical (R21), and every multi-byte field is the
big-endian value of its bytes (R22). -/

namespace Sys2Proof.Machine

/-- Settles O2: the buffer of an image lists its own nonzero bytes only, and nothing is done yet. -/
theorem loadMeetsInvariant : Obligations.LoadMeetsInvariant := by
  intro bs
  exact
    { image_wf := Memory.ofBytesFrom_wf 0 bs
      image_bound := fun c hc => by
        have := Memory.mem_ofBytesFrom hc
        simp only [State.load_imageLen]; omega
      combinational := answer_decode 0x00000000#32
      results_eq := rfl
      stage_ok := ⟨rfl, rfl, rfl⟩ }

/-! ### Big-endian fields -/

theorem toNat_append_eq_add {a b : Nat} (x : BitVec a) (y : BitVec b) :
    (x ++ y).toNat = x.toNat * 2 ^ b + y.toNat := by
  rw [BitVec.toNat_append, ← Nat.shiftLeft_add_eq_or_of_lt y.isLt, Nat.shiftLeft_eq]

theorem Memory.toNat_wordAt (m : Memory) (off : Nat) :
    (m.wordAt off).toNat = (m.read off).toNat * 2 ^ 24 + (m.read (off + 1)).toNat * 2 ^ 16 +
      (m.read (off + 2)).toNat * 2 ^ 8 + (m.read (off + 3)).toNat := by
  simp only [Memory.wordAt, wordOfBytes, toNat_append_eq_add]
  omega

theorem Memory.toNat_halfAt (m : Memory) (off : Nat) :
    (m.halfAt off).toNat = (m.read off).toNat * 2 ^ 8 + (m.read (off + 1)).toNat :=
  toNat_append_eq_add _ _

theorem Memory.toNat_wordAt_eq_memRead (m : Memory) (off : Nat) : (m.wordAt off).toNat = m.memRead off 4 := by
  simp [Memory.toNat_wordAt, Memory.memRead, Memory.bytes, List.range_succ, bigEndian, Nat.add_assoc]

theorem Memory.toNat_halfAt_eq_memRead (m : Memory) (off : Nat) : (m.halfAt off).toNat = m.memRead off 2 := by
  simp [Memory.toNat_halfAt, Memory.memRead, Memory.bytes, List.range_succ, bigEndian]

theorem Memory.ofNat_memRead_four (m : Memory) (off : Nat) : BitVec.ofNat 32 (m.memRead off 4) = m.wordAt off := by
  rw [← Memory.toNat_wordAt_eq_memRead, BitVec.ofNat_toNat, BitVec.setWidth_eq]

theorem Memory.ofNat_memRead_two (m : Memory) (off : Nat) : BitVec.ofNat 16 (m.memRead off 2) = m.halfAt off := by
  rw [← Memory.toNat_halfAt_eq_memRead, BitVec.ofNat_toNat, BitVec.setWidth_eq]

/-- The byte at the lowest offset supplies bits 31 to 24 (R22). -/
theorem Memory.topByte_wordAt (m : Memory) (off : Nat) : (m.wordAt off).extractLsb' 24 8 = m.read off := by
  ext i hi; simp [Memory.wordAt, wordOfBytes]; grind

theorem Memory.toNat_primary_wordAt (m : Memory) (off : Nat) :
    (primary (m.wordAt off)).toNat = (m.read off).toNat / 4 := by
  have hlt := (m.read off).isLt
  rw [Memory.wordAt, primary_wordOfBytes, BitVec.extractLsb'_toNat, Nat.shiftRight_eq_div_pow]
  omega

/-- Settles O38, from the value of two bit vectors put side by side. -/
theorem bigEndianFields : Obligations.BigEndianFields := fun m off =>
  ⟨m.toNat_wordAt off, m.toNat_wordAt_eq_memRead off, m.toNat_halfAt off, m.toNat_halfAt_eq_memRead off,
    m.topByte_wordAt off, m.toNat_primary_wordAt off⟩

/-- R23, R24: the header's fields are what `MemRead` gives at their offsets. -/
theorem headerOf_eq_memRead (m : Memory) : headerOf m =
    { clockRate := BitVec.ofNat 32 (m.memRead 0x04 4), pc := BitVec.ofNat 32 (m.memRead 0x08 4),
      release := BitVec.ofNat 32 (m.memRead 0x0C 4), crc1 := BitVec.ofNat 32 (m.memRead 0x10 4),
      crc2 := BitVec.ofNat 32 (m.memRead 0x14 4), imageName := m.bytes 0x20 20,
      manufacturerId := BitVec.ofNat 32 (m.memRead 0x38 4), cartridgeId := BitVec.ofNat 16 (m.memRead 0x3C 2),
      countryCode := BitVec.ofNat 16 (m.memRead 0x3E 2) } := by
  simp only [Memory.ofNat_memRead_four, Memory.ofNat_memRead_two, headerOf]

end Sys2Proof.Machine
end

section
/-! PROOFS. The steps of the environment: the header, one bootcode word, a run of words, and what they leave alone
(R23 to R29). -/

namespace Sys2Proof.Machine

variable {s : State}

theorem step_of_header (h : s.stage = .header) : step s = s.readHeader := by simp only [step, h]

theorem step_of_complete (h : s.stage = .complete) : step s = .next s := by simp only [step, h]

theorem stage_cases (s : State) : s.stage = .header ∨ s.stage = .bootcode ∨ s.stage = .complete := by
  cases s.stage <;> simp

/-! ### The header -/

theorem readHeader_of_short (h : s.imageLen < 0x40) : s.readHeader = .fault (.insufficientData .header) := if_pos h

theorem readHeader_of_long (h : 0x40 ≤ s.imageLen) : s.readHeader =
    if Config.textValid (headerOf s.image).imageName then
      .next { s with stage := .bootcode, pos := 0x40, header := some (headerOf s.image) }
    else .fault (.invalidText (headerOf s.image).imageName) := if_neg (Nat.not_lt.2 h)

/-- Settles O39, with each field as the big-endian value at its offset. -/
theorem headerReadAtFixedOffsets : Obligations.HeaderReadAtFixedOffsets := by
  refine ⟨fun s hs hlen => ?_, fun s hs hlen => ?_⟩
  · rw [step_of_header hs, readHeader_of_short hlen]
  · rw [step_of_header hs, readHeader_of_long hlen, headerOf_eq_memRead]

/-! ### One bootcode word -/

/-- With a whole boot block and a whole word left, a step is the evaluation of the word at the stream position. -/
theorem step_eq_evaluate (hs : s.stage = .bootcode) (hlen : Config.bootBlockBytes ≤ s.imageLen)
    (hpos : s.pos + 4 ≤ Config.bootBlockBytes) :
    step s = collectOutcome (evaluate (s.image.wordAt s.pos) s) := by
  simp only [step, hs, State.fetchWord_eq, if_pos (And.intro hlen hpos)]

theorem decodeBytes_bytes (m : Memory) (off : Nat) :
    decodeBytes (m.bytes off 4) = .ok (decode (m.wordAt off), []) := rfl

/-- Settles O4: the fetched word is the word of the four bytes, and every answer of the block is collected. -/
theorem stepRunsTheDecodedWord : Obligations.StepRunsTheDecodedWord := by
  intro s i hs hlen hpos hi
  obtain rfl : decode (s.image.wordAt s.pos) = i := by
    rw [decodeBytes_bytes] at hi; cases hi; rfl
  have hstep : step s = collectOutcome
      (exec (decode (s.image.wordAt s.pos)) { s with word := s.image.wordAt s.pos }) :=
    step_eq_evaluate hs hlen hpos
  refine ⟨hstep, fun u hu => ?_⟩
  rw [hstep, hu]; rfl

/-- The state after the word at the stream position is classified and its result collected (R25). -/
def State.afterWord (s : State) : State :=
  { s with word := s.image.wordAt s.pos, result := decodeWord (s.image.wordAt s.pos) : State }.collect

@[simp] theorem State.afterWord_word : s.afterWord.word = s.image.wordAt s.pos := rfl
@[simp] theorem State.afterWord_result : s.afterWord.result = decodeWord (s.image.wordAt s.pos) := rfl
@[simp] theorem State.afterWord_image : s.afterWord.image = s.image := rfl
@[simp] theorem State.afterWord_imageLen : s.afterWord.imageLen = s.imageLen := rfl
@[simp] theorem State.afterWord_pos : s.afterWord.pos = s.pos + 4 := rfl
@[simp] theorem State.afterWord_header : s.afterWord.header = s.header := rfl
@[simp] theorem State.afterWord_results :
    s.afterWord.results = s.results ++ [decodeWord (s.image.wordAt s.pos)] := rfl

/-- Before the end of the boot block the bootcode stage goes on. -/
theorem State.afterWord_stage (h : s.pos + 4 < 0x1000) : s.afterWord.stage = .bootcode :=
  if_neg (Nat.not_le.2 h)

theorem step_eq_afterWord (hs : s.stage = .bootcode) (hlen : Config.bootBlockBytes ≤ s.imageLen)
    (hpos : s.pos + 4 ≤ Config.bootBlockBytes) : step s = .next s.afterWord := by
  rw [step_of_bootcode hs, if_pos ⟨hlen, hpos⟩]; rfl

/-! ### A placed word -/

theorem Memory.bytes_writeBytes {m : Memory} (hm : m.wf) (off : Nat) (bs : List Byte) :
    (m.writeBytes off bs).bytes off bs.length = bs :=
  List.ext_getElem (by simp) fun i _ hi => by simp [Memory.bytes, Memory.read_writeBytes_same hm off bs hi]

/-- A word written byte by byte (R22) reads back as that word. -/
theorem Memory.wordAt_writeBytes {m : Memory} (hm : m.wf) (off : Nat) (w : Word) :
    (m.writeBytes off (bytesOfWord w)).wordAt off = w := by
  have hbytes : (m.writeBytes off (bytesOfWord w)).bytes off 4 = bytesOfWord w ++ [] :=
    Memory.bytes_writeBytes hm off (bytesOfWord w)
  have hnext := nextWord_bytes (m.writeBytes off (bytesOfWord w)) off
  rw [hbytes, nextWord_bytesOfWord] at hnext
  exact (congrArg Prod.fst (Except.ok.inj hnext)).symm

theorem fetchOffset_le (s : State) : s.fetchOffset + 4 ≤ Config.bootBlockBytes := by
  unfold State.fetchOffset
  split
  next h => exact h.2
  next => decide

theorem tableWord_full (w : Nat) : tableWord 32 w = BitVec.ofNat 32 w :=
  BitVec.eq_of_toNat_eq (by simp [tableWord])

theorem step_placeWord (s : State) (w : Word) : step (s.placeWord w) = .next (s.placeWord w).afterWord :=
  step_eq_afterWord rfl (le_max_right _ _) (fetchOffset_le s)

/-- Settles O50: the placed word is the one fetched, and the step collects it. -/
theorem placedWordRunsNext : Obligations.PlacedWordRunsNext := by
  intro s w hm
  rw [State.withFetchWord, tableWord_full]
  have hfetch := Memory.wordAt_writeBytes hm s.fetchOffset (BitVec.ofNat 32 w)
  refine ⟨_, step_placeWord s _, hfetch, congrArg decodeWord hfetch, ?_, rfl, Memory.writeBytes_wf hm _ _,
    fun a ha => Memory.read_writeBytes_other _ _ _ ha⟩
  rw [State.afterWord_results, State.placeWord_image, State.placeWord_pos, hfetch, State.placeWord_results]

/-! ### A run of bootcode words -/

theorem wordOffset_succ (n : Nat) : wordOffset (n + 1) = wordOffset n + 4 := rfl

theorem wordOffset_eq (n : Nat) : wordOffset n = 0x40 + 4 * n := rfl

theorem classifications_succ (m : Memory) (n k : Nat) :
    (List.range (k + 1)).map (fun i => decodeWord (m.wordAt (wordOffset (n + i)))) =
      decodeWord (m.wordAt (wordOffset n)) ::
        (List.range k).map (fun i => decodeWord (m.wordAt (wordOffset (n + 1 + i)))) := by
  simp [List.range_succ_eq_map, Function.comp_def, Nat.add_assoc, Nat.add_comm 1]

/-- The run of O43, where the stage matters only if a step is still to be taken: after the last word it is no longer
the bootcode's. -/
theorem run_words (k : Nat) : ∀ (s : State) (n : Nat), (0 < k → s.stage = .bootcode) →
    Config.bootBlockBytes ≤ s.imageLen → s.pos = wordOffset n → n + k ≤ 1008 →
    ∃ t : State, Host.Core.run Sys2Proof.core k s = .next t ∧
      t.results = s.results ++ (List.range k).map (fun i => decodeWord (s.image.wordAt (wordOffset (n + i)))) ∧
      t.image = s.image ∧ t.imageLen = s.imageLen ∧ t.header = s.header ∧ t.pos = wordOffset (n + k) := by
  induction k with
  | zero => exact fun s n _ _ hpos _ => ⟨s, run_zero s, by simp, rfl, rfl, rfl, hpos⟩
  | succ k ih =>
    intro s n hs hlen hpos hn
    have hpos' : s.pos = 0x40 + 4 * n := hpos
    have hstep : step s = .next s.afterWord :=
      step_eq_afterWord (hs k.succ_pos) hlen (show s.pos + 4 ≤ 0x1000 by omega)
    obtain ⟨t, hrun, hres, himage, hlen', hheader, hpos''⟩ := ih s.afterWord (n + 1)
      (fun hk => State.afterWord_stage (by omega)) hlen (congrArg (· + 4) hpos) (by omega)
    refine ⟨t, (run_next hstep k).trans hrun, ?_, himage, hlen', hheader, ?_⟩
    · rw [hres, classifications_succ, State.afterWord_results, State.afterWord_image, hpos, List.append_assoc,
        List.singleton_append]
    · rw [hpos'', Nat.add_right_comm, Nat.add_assoc]

/-- Settles O43, by induction on the number of steps. -/
theorem extractorRun : Obligations.ExtractorRun :=
  fun s n k hs => run_words k s n fun _ => hs

/-! ### What a step leaves alone -/

/-- Settles O47, by the three things a step can do. -/
theorem bufferAndPastResultsNeverChange : Obligations.BufferAndPastResultsNeverChange := by
  intro s t h
  obtain ⟨hs, hread⟩ | ⟨-, -, -, rfl⟩ | ⟨-, rfl⟩ := step_next h
  · obtain ⟨-, -, rfl⟩ := s.readHeader_next hread
    refine ⟨rfl, rfl, fun _ => rfl, List.prefix_rfl, fun hinv => ?_⟩
    obtain ⟨hpos, -⟩ := (stageOk_of_header hs).1 hinv.stage_ok
    exact hpos.le.trans (Nat.zero_le _)
  · exact ⟨rfl, rfl, fun _ => rfl, List.prefix_append _ _, fun _ => Nat.le_add_right _ _⟩
  · exact ⟨rfl, rfl, fun _ => rfl, List.prefix_rfl, fun _ => le_rfl⟩

theorem Memory.halfAt_congr {m m' : Memory} {off : Nat} (h : ∀ a, off ≤ a → a < off + 2 → m.read a = m'.read a) :
    m.halfAt off = m'.halfAt off := by
  rw [Memory.halfAt, Memory.halfAt, h off (by omega) (by omega), h (off + 1) (by omega) (by omega)]

/-- The header lies below offset 0x40 (R23). -/
theorem headerOf_congr {m m' : Memory} (h : ∀ a < 0x40, m.read a = m'.read a) : headerOf m = headerOf m' := by
  have hword : ∀ off, off + 4 ≤ 0x40 → m.wordAt off = m'.wordAt off :=
    fun off hoff => Memory.wordAt_congr fun a _ ha => h a (by omega)
  have hhalf : ∀ off, off + 2 ≤ 0x40 → m.halfAt off = m'.halfAt off :=
    fun off hoff => Memory.halfAt_congr fun a _ ha => h a (by omega)
  have hname : m.bytes 0x20 20 = m'.bytes 0x20 20 := Memory.bytes_congr fun a _ ha => h a (by omega)
  simp only [headerOf, hname, hword 0x04 (by decide), hword 0x08 (by decide), hword 0x0C (by decide),
    hword 0x10 (by decide), hword 0x14 (by decide), hword 0x38 (by decide), hhalf 0x3C (by decide),
    hhalf 0x3E (by decide)]

/-- Settles O48: the header's bytes and the fetched word's lie below 0x1000, and the two length tests ask no more than
the length up to there. -/
theorem nothingReadBeyondTheBootBlock : Obligations.NothingReadBeyondTheBootBlock := by
  intro s m n hread hlen
  obtain hs | hs | hs := stage_cases s
  · have hhead : headerOf m = headerOf s.image := headerOf_congr fun a ha => hread a (by omega)
    rw [step_of_header hs, step_of_header (s := { s with image := m, imageLen := n }) hs]
    by_cases hshort : s.imageLen < 0x40
    · rw [readHeader_of_short hshort, readHeader_of_short (show n < 0x40 by omega)]
    · rw [readHeader_of_long (show 0x40 ≤ s.imageLen by omega), readHeader_of_long (show 0x40 ≤ n by omega)]
      simp only [hhead]
      split <;> rfl
  · have hfetch : (0x1000 ≤ n ∧ s.pos + 4 ≤ 0x1000) ↔ (0x1000 ≤ s.imageLen ∧ s.pos + 4 ≤ 0x1000) := by omega
    rw [step_of_bootcode hs, step_of_bootcode (s := { s with image := m, imageLen := n }) hs]
    by_cases h : 0x1000 ≤ s.imageLen ∧ s.pos + 4 ≤ 0x1000
    · have hword : m.wordAt s.pos = s.image.wordAt s.pos :=
        Memory.wordAt_congr fun a _ ha => hread a (by omega)
      rw [if_pos h, if_pos (hfetch.2 h)]
      simp only [hword]
      rfl
    · rw [if_neg h, if_neg (hfetch.not.2 h)]
  · rw [step_of_complete hs, step_of_complete (s := { s with image := m, imageLen := n }) hs]

end Sys2Proof.Machine
end

section
/-! PROOFS. The encoding: the field extractors as arithmetic (R41 to R46), and the classifier under any maps that meet
the constraints of R61. -/

namespace Sys2Proof.Machine

/-! ### The fields as numbers -/

section Fields
variable (w : Word)

theorem toNat_primary : (primary w).toNat = w.toNat / 2 ^ 26 := by
  simp only [primary, BitVec.extractLsb'_toNat, Nat.shiftRight_eq_div_pow]
  omega

theorem toNat_funct : (funct w).toNat = w.toNat % 64 := by
  simp [funct]

theorem toNat_regimmRt : (regimmRt w).toNat = w.toNat / 2 ^ 16 % 32 := by
  simp [regimmRt, Nat.shiftRight_eq_div_pow]

theorem toNat_copFmt : (copFmt w).toNat = w.toNat / 2 ^ 21 % 32 := by
  simp [copFmt, Nat.shiftRight_eq_div_pow]

/-- R46: the two extractors read the same six bits. -/
theorem cop2VecOp_eq_funct : cop2VecOp w = funct w := rfl

end Fields

/-- Settles O27, field by field; the example words are evaluated. -/
theorem fieldExtractors : Obligations.FieldExtractors :=
  ⟨fun w => ⟨toNat_primary w, toNat_funct w, toNat_regimmRt w, toNat_copFmt w,
      (congrArg BitVec.toNat (cop2VecOp_eq_funct w)).trans (toNat_funct w), cop2VecOp_eq_funct w⟩,
    by decide⟩

/-! ### The standard maps -/

/-- Settles O32, constraint by constraint, on the 30 and 23 mnemonics of the tables. -/
theorem standardMapsAreAdmissible : Obligations.StandardMapsAreAdmissible where
  primary_injective := by decide
  primary_unclaimed := by decide
  primary_addiu := by decide
  funct_injective := by decide
  funct_sll := by decide

/-! ### Looking a value up in a map -/

/-- On a list where a code is injective, looking up a member's code finds that member. -/
theorem find?_code {code : OpCode → BitVec 6} {l : List OpCode}
    (hinj : ∀ a ∈ l, ∀ b ∈ l, code a = code b → a = b) {t : OpCode} (ht : t ∈ l) :
    l.find? (fun a => code a == code t) = some t := by
  cases h : l.find? (fun a => code a == code t) with
  | none => exact absurd (beq_self_eq_true _) (List.find?_eq_none.1 h t ht)
  | some a =>
    have hcode : code a = code t := by simpa using List.find?_some h
    rw [hinj a (List.mem_of_find?_eq_some h) t ht hcode]

section Maps
variable {m : CodeMaps} {w : Word} {p f : BitVec 6} {t : OpCode}

theorem directOf?_eq_none_iff : m.directOf? p = none ↔ ∀ t ∈ OpCode.direct, m.primaryCode t ≠ p := by
  simp [CodeMaps.directOf?]

theorem specialOf?_eq_none_iff : m.specialOf? f = none ↔ ∀ t ∈ OpCode.special, m.functCode t ≠ f := by
  simp [CodeMaps.specialOf?]

theorem directOf?_primaryCode (hm : m.Admissible) (ht : t ∈ OpCode.direct) :
    m.directOf? (m.primaryCode t) = some t := find?_code hm.primary_injective ht

theorem specialOf?_functCode (hm : m.Admissible) (ht : t ∈ OpCode.special) :
    m.specialOf? (m.functCode t) = some t := find?_code hm.funct_injective ht

/-- R61 (b): a claimed value is left to the later dispatch steps. -/
theorem directOf?_claimed (hm : m.Admissible) (hp : p ∈ CodeMaps.claimed) : m.directOf? p = none :=
  directOf?_eq_none_iff.2 fun t ht h => hm.primary_unclaimed t ht (h ▸ hp)

/-! ### The classifier under admissible maps -/

theorem classifyWith_special (hm : m.Admissible) (h : primary w = 0b000000#6) :
    classifyWith m w = classifySpecial m w := by
  simp [classifyWith, h, directOf?_claimed hm (show 0b000000#6 ∈ CodeMaps.claimed by decide)]

/-- R71 step 9, over any maps. -/
theorem classifyWith_unmapped (hd : m.directOf? (primary w) = none) (hc : primary w ∉ CodeMaps.claimed) :
    classifyWith m w = .error ⟨.PRIMARY, (primary w).toNat, w⟩ := by
  simp_all [classifyWith, CodeMaps.claimed]

/-- The dispatch steps after the direct mappings look at the maps under SPECIAL only. -/
theorem classifyWith_congr {m' : CodeMaps} (hd : m.directOf? (primary w) = none)
    (hd' : m'.directOf? (primary w) = none) (h : primary w ≠ 0b000000#6) : classifyWith m w = classifyWith m' w := by
  simp only [classifyWith, hd, hd', if_neg h]

/-- Only dispatch step 9 names the table PRIMARY. -/
theorem classifyWith_error_primary {e : DecodeError} (h : classifyWith m w = .error e) (he : e.table = .PRIMARY) :
    m.directOf? (primary w) = none ∧ primary w ∉ CodeMaps.claimed := by
  simp only [classifyWith] at h
  split at h
  · cases h
  next hd =>
    split_ifs at h
    · rw [classifyRegimm_error h] at he; cases he
    · rw [classifySpecial_error h] at he; cases he
    · exact absurd h (classifyCop0_ne_error w e)
    · rw [classifyCop1_error h] at he; cases he
    · obtain rfl | rfl := classifyCop2_error h <;> cases he
    · exact ⟨hd, by simp_all [CodeMaps.claimed]⟩

theorem decodeWith_of_ok (h : classifyWith m w = .ok t) : decodeWith m w = .ok ⟨t, w⟩ := by
  rw [decodeWith_eq_map, h]; rfl

theorem decodeWith_of_error {e : DecodeError} (h : classifyWith m w = .error e) : decodeWith m w = .error e := by
  rw [decodeWith_eq_map, h]; rfl

theorem decodeWith_direct (hm : m.Admissible) (ht : t ∈ OpCode.direct) (h : primary w = m.primaryCode t) :
    decodeWith m w = .ok ⟨t, w⟩ :=
  decodeWith_of_ok (classifyWith_of_direct (h ▸ directOf?_primaryCode hm ht))

theorem decodeWith_special (hm : m.Admissible) (ht : t ∈ OpCode.special) (hp : primary w = 0b000000#6)
    (hf : funct w = m.functCode t) : decodeWith m w = .ok ⟨t, w⟩ :=
  decodeWith_of_ok <| (classifyWith_special hm hp).trans <|
    classifySpecial_of_some (hf ▸ specialOf?_functCode hm ht)

theorem decodeWith_special_unmapped (hm : m.Admissible) (hp : primary w = 0b000000#6)
    (hf : m.specialOf? (funct w) = none) : decodeWith m w = .error ⟨.SPECIAL, (funct w).toNat, w⟩ :=
  decodeWith_of_error ((classifyWith_special hm hp).trans (classifySpecial_of_none hf))

end Maps

/-- Settles O34, clause by clause along the dispatch steps of R71. -/
theorem admissibleMapsKeepTheRules : Obligations.AdmissibleMapsKeepTheRules := by
  intro m hm
  refine ⟨fun t ht w => decodeWith_direct hm ht, fun t ht w => decodeWith_special hm ht, fun w hp hf => ?_,
    fun w hc h0 => ?_, fun w hc hd => ?_⟩
  · exact decodeWith_special_unmapped hm hp (specialOf?_eq_none_iff.2 fun t ht => (hf t ht).symm)
  · rw [decodeWord, decodeWith_eq_map, decodeWith_eq_map, classifyWith_congr (directOf?_claimed hm hc)
      (directOf?_claimed standardMapsAreAdmissible hc) h0]
  · exact decodeWith_of_error (classifyWith_unmapped (directOf?_eq_none_iff.2 fun t ht => (hd t ht).symm) hc)

/-! ### Counting the values of a key field -/

section Counts
variable {m : CodeMaps} {w : Word}

/-- The primary values that have an outcome: those of the direct mnemonics and the claimed ones (R61). -/
def primaryValues (m : CodeMaps) : Finset (BitVec 6) :=
  OpCode.direct.toFinset.image m.primaryCode ∪ CodeMaps.claimed.toFinset

/-- The funct values of the SPECIAL mnemonics. -/
def functValues (m : CodeMaps) : Finset (BitVec 6) :=
  OpCode.special.toFinset.image m.functCode

theorem card_primaryValues (hm : m.Admissible) : (primaryValues m).card = 38 := by
  have hdisj : Disjoint (OpCode.direct.toFinset.image m.primaryCode) CodeMaps.claimed.toFinset := by
    simpa [Finset.disjoint_left] using hm.primary_unclaimed
  have hinj : Set.InjOn m.primaryCode OpCode.direct.toFinset := fun a ha b hb =>
    hm.primary_injective a (by simpa using ha) b (by simpa using hb)
  rw [primaryValues, Finset.card_union_of_disjoint hdisj, Finset.card_image_of_injOn hinj]
  decide

theorem card_functValues (hm : m.Admissible) : (functValues m).card = 23 := by
  have hinj : Set.InjOn m.functCode OpCode.special.toFinset := fun a ha b hb =>
    hm.funct_injective a (by simpa using ha) b (by simpa using hb)
  rw [functValues, Finset.card_image_of_injOn hinj]
  decide

/-- How many of the 64 values of a six-bit field lie outside a set. -/
theorem card_filter_notMem (s : Finset (BitVec 6)) : (Finset.univ.filter (· ∉ s)).card = 64 - s.card := by
  rw [← Finset.compl_filter, Finset.filter_univ_mem, Finset.card_compl]; rfl

theorem notMem_primaryValues_iff {p : BitVec 6} :
    p ∉ primaryValues m ↔ m.directOf? p = none ∧ p ∉ CodeMaps.claimed := by
  simp [primaryValues, directOf?_eq_none_iff]

theorem notMem_functValues_iff {f : BitVec 6} : f ∉ functValues m ↔ m.specialOf? f = none := by
  simp [functValues, specialOf?_eq_none_iff]

theorem errorTable?_primary_iff :
    errorTable? (decodeWith m w) = some .PRIMARY ↔ primary w ∉ primaryValues m := by
  rw [notMem_primaryValues_iff]
  constructor
  · intro h
    cases hc : classifyWith m w with
    | ok t => rw [decodeWith_of_ok hc] at h; cases h
    | error e =>
      rw [decodeWith_of_error hc] at h
      exact classifyWith_error_primary hc (Option.some.inj h)
  · rintro ⟨hd, hc⟩
    rw [decodeWith_of_error (classifyWith_unmapped hd hc)]; rfl

/-- R140: under SPECIAL the funct value decides between a tag and the SPECIAL failure. -/
theorem decodeWith_special_cases (hm : m.Admissible) (hp : primary w = 0b000000#6) :
    (funct w ∈ functValues m ∧ ∃ t, decodeWith m w = .ok ⟨t, w⟩) ∨
    (funct w ∉ functValues m ∧ decodeWith m w = .error ⟨.SPECIAL, (funct w).toNat, w⟩) := by
  by_cases hf : funct w ∈ functValues m
  · obtain ⟨t, ht, hcode⟩ : ∃ t ∈ OpCode.special, m.functCode t = funct w := by
      simpa [functValues] using hf
    exact .inl ⟨hf, t, decodeWith_special hm ht hp hcode.symm⟩
  · exact .inr ⟨hf, decodeWith_special_unmapped hm hp (notMem_functValues_iff.1 hf)⟩

theorem tag?_special_iff (hm : m.Admissible) (hp : primary w = 0b000000#6) :
    (tag? (decodeWith m w)).isSome = true ↔ funct w ∈ functValues m := by
  obtain ⟨hf, t, hd⟩ | ⟨hf, hd⟩ := decodeWith_special_cases hm hp <;> simp [hf, hd, tag?]

theorem errorTable?_special_iff (hm : m.Admissible) (hp : primary w = 0b000000#6) :
    errorTable? (decodeWith m w) = some .SPECIAL ↔ funct w ∉ functValues m := by
  obtain ⟨hf, t, hd⟩ | ⟨hf, hd⟩ := decodeWith_special_cases hm hp <;> simp [hf, hd, errorTable?]

end Counts

/-- Settles O33: the 30 direct and the 8 claimed primary values are distinct, and so are the 23 funct values. -/
theorem admissibleMapsKeepTheCounts : Obligations.AdmissibleMapsKeepTheCounts := by
  intro m hm x y
  simp only [ne_eq, errorTable?_primary_iff, primary_formatP, not_not,
    errorTable?_special_iff hm (primary_formatS _ y _), tag?_special_iff hm (primary_formatS _ y _), funct_formatS,
    card_filter_notMem, Finset.filter_univ_mem, card_primaryValues hm, card_functValues hm]
  decide

end Sys2Proof.Machine
end

section
/-! PROOFS. Every word is the encoding of its decoding (R72), table by table (R49 to R54). -/

namespace Sys2Proof.Machine

/-! ### The key fields of a decoded term are those its rule lists -/

/-- R191. -/
theorem primaryErrors_of_unmapped : ∀ p : BitVec 6, p ∉ primaryTable.map Prod.snd → p ∉ CodeMaps.claimed →
    primaryErrors.contains p.toNat = true := by decide

/-- R164. -/
theorem specialErrors_of_unmapped : ∀ f : BitVec 6, f ∉ functTable.map Prod.snd →
    specialErrors.contains f.toNat = true := by decide

/-- R136. -/
theorem regimmErrors_of_unmapped : ∀ rt : BitVec 5, rt ∉ [0b00000#5, 0b00011#5, 0b01000#5, 0b10000#5, 0b10001#5] →
    regimmErrors.contains rt.toNat = true := by decide

/-! ### Encoding what each table decodes -/

variable {w : Word}

theorem wf_and_encode_decodePrimary (p : BitVec 6) (x : BitVec 26) (h : p ∉ delegatedPrimaries) :
    (decodePrimary p x).wf = true ∧ encode (decodePrimary p x) = p ++ x := by
  unfold decodePrimary
  split
  case h_34 =>
    have hd : p ∉ primaryTable.map Prod.snd := by simp_all [primaryTable]
    have hc : p ∉ CodeMaps.claimed := by simp_all [CodeMaps.claimed, delegatedPrimaries]
    exact ⟨primaryErrors_of_unmapped p hd hc, rfl⟩
  all_goals exact ⟨rfl, rfl⟩

theorem wf_and_encode_decodeSpecial (f : BitVec 6) (x : BitVec 20) :
    (decodeSpecial f x).wf = true ∧ encode (decodeSpecial f x) = 0b000000#6 ++ x ++ f := by
  unfold decodeSpecial
  split
  case h_24 => exact ⟨specialErrors_of_unmapped f (by simp_all [functTable]), rfl⟩
  all_goals exact ⟨rfl, rfl⟩

theorem wf_and_encode_decodeRegimm (rt hi : BitVec 5) (lo : BitVec 16) :
    (decodeRegimm rt hi lo).wf = true ∧ encode (decodeRegimm rt hi lo) = 0b000001#6 ++ hi ++ rt ++ lo := by
  unfold decodeRegimm
  split
  case h_6 => exact ⟨regimmErrors_of_unmapped rt (by simp_all), rfl⟩
  all_goals exact ⟨rfl, rfl⟩

theorem wf_and_encode_decodeCop0 (fmt : BitVec 5) (x : BitVec 21) :
    (decodeCop0 fmt x).wf = true ∧ encode (decodeCop0 fmt x) = 0b010000#6 ++ fmt ++ x := by
  unfold decodeCop0
  split
  case h_3 => exact ⟨by simp_all [Instr.wf], rfl⟩
  all_goals exact ⟨rfl, rfl⟩

theorem wf_and_encode_decodeCop1 (fmt : BitVec 5) (x : BitVec 21) :
    (decodeCop1 fmt x).wf = true ∧ encode (decodeCop1 fmt x) = 0b010001#6 ++ fmt ++ x := by
  unfold decodeCop1
  split
  case h_2 => exact ⟨by simp_all [Instr.wf], rfl⟩
  case h_1 => exact ⟨rfl, rfl⟩

theorem wf_and_encode_decodeCop2Vec (op : BitVec 6) (x : BitVec 15) :
    (decodeCop2Vec op x).wf = true ∧ encode (decodeCop2Vec op x) = 0b010010#6 ++ 0b10001#5 ++ x ++ op := by
  unfold decodeCop2Vec
  split
  case h_2 => exact ⟨by simp_all [Instr.wf], rfl⟩
  case h_1 => exact ⟨rfl, rfl⟩

theorem wf_and_encode_decodeCop2 (h : primary w = 0b010010#6) :
    (decodeCop2 (copFmt w) w).wf = true ∧ encode (decodeCop2 (copFmt w) w) = w := by
  have hC := h ▸ formatC_fields w
  have hV := h ▸ formatV_fields w
  unfold decodeCop2
  split
  next hf => rw [hf] at hC; exact ⟨rfl, hC⟩
  next hf => rw [hf] at hV; exact (wf_and_encode_decodeCop2Vec _ _).imp_right (·.trans hV)
  next => exact ⟨by simp_all [Instr.wf], hC⟩

/-- Encoding a decoded word, one table at a time: the term is well formed, and the word is its fields again. -/
theorem wf_and_encode_decode (w : Word) : (decode w).wf = true ∧ encode (decode w) = w := by
  unfold decode
  split
  next h => exact (wf_and_encode_decodeSpecial _ _).imp_right (·.trans (h ▸ formatS_fields w))
  next h => exact (wf_and_encode_decodeRegimm _ _ _).imp_right (·.trans (h ▸ formatR_fields w))
  next h => exact (wf_and_encode_decodeCop0 _ _).imp_right (·.trans (h ▸ formatC_fields w))
  next h => exact (wf_and_encode_decodeCop1 _ _).imp_right (·.trans (h ▸ formatC_fields w))
  next h => exact wf_and_encode_decodeCop2 h
  next =>
    exact (wf_and_encode_decodePrimary _ _ (by simp_all [delegatedPrimaries])).imp_right (·.trans (formatP_fields w))

/-- Settles O7, table by table. -/
theorem encodeOfDecode : Obligations.EncodeOfDecode := wf_and_encode_decode

end Sys2Proof.Machine
end

section
/-! PROOFS. The rows of the opcode table: every word matches the row of its decoding and no other (R73), and the rows
are 290, six of them the COP0 fallback's (R173). -/

namespace Sys2Proof.Machine

variable {w : Word}

/-! ### The row of an instruction -/

/-- Match and mask of an instruction's row of the opcode table. -/
def rowOf (i : Instr) : Word × Word := (i.rowMatch, i.rowMask)

/-- The law RowMatch for every constructor, one format at a time. -/
theorem rowMatch_encode (i : Instr) : encode i &&& i.rowMask = i.rowMatch := by
  cases i with
  | addiu x | bne x | lui x | lw x | sw x | ori x | beq x | jal x | addi x | andi x | sltiu x | cache x | bnel x
  | slti x | beql x | blezl x | sb x | lbu x | xori x | j x | lb x | lwc1 x | lh x | sc x | scd x | lwl x | daddi x
  | ll x | blez x | sd x => exact Laws.RowMatch.formatP_and _ x
  | unknown p x => exact Laws.RowMatch.unknown p x
  | unknownPrimary p x => exact Laws.RowMatch.unknownPrimary p x
  | bgezl hi lo | bgezal hi lo | bltz hi lo | bltzal hi lo | tgei hi lo => exact Laws.RowMatch.formatR_and _ hi _ lo
  | unknownRegimm rt hi lo => exact Laws.RowMatch.unknownRegimm rt hi lo
  | sll x | or x | and x | add x | slt x | sltu x | jr x | mflo x | addu x | subu x | srlv x | sllv x | xor x | srl x
  | multu x | movci x | dsra32 x | mfhi x | sra x | syscall x | sync x | dsll x | dsrl32 x =>
    exact Laws.RowMatch.formatS_and x _
  | unknownSpecial f x => exact Laws.RowMatch.unknownSpecial f x
  | mfc0 x | mtc0 x | mfc1 x | mfc2 x => exact Laws.RowMatch.formatC_and _ _ x
  | mfc0Fallback fmt x => exact Laws.RowMatch.mfc0Fallback fmt x
  | unknownCop1 fmt x => exact Laws.RowMatch.unknownCop1 fmt x
  | unknownCop2 fmt x => exact Laws.RowMatch.unknownCop2 fmt x
  | vne x => exact Laws.RowMatch.formatV_and _ _ x _
  | unknownCop2Vec op x => exact Laws.RowMatch.unknownCop2Vec op x

/-- Every word matches the row of its decoding. -/
theorem rowMatch_decode (w : Word) : w &&& (decode w).rowMask = (decode w).rowMatch := by
  have h := rowMatch_encode (decode w)
  rwa [(wf_and_encode_decode w).2] at h

theorem rowOf_decode (w : Word) : rowOf (decode w) = (w &&& (decode w).rowMask, (decode w).rowMask) := by
  rw [rowMatch_decode]; rfl

/-! ### The row of a word, by the table that decodes it (R48) -/

/-- Format P: the primary value selects the row. -/
def primaryRow (p : BitVec 6) : Word × Word := (p ++ 0#26, 0xFC000000#32)
/-- Format S: the row of a funct value under SPECIAL. -/
def specialRow (f : BitVec 6) : Word × Word := (0b000000#6 ++ 0#20 ++ f, 0xFC00003F#32)
/-- Format R: the row of an rt value under REGIMM. -/
def regimmRow (rt : BitVec 5) : Word × Word := (0b000001#6 ++ 0#5 ++ rt ++ 0#16, 0xFC1F0000#32)
/-- Format C: the row of a format under a coprocessor's primary value, COP0's fallback apart (`fallbackRow`). -/
def copRow (p : BitVec 6) (fmt : BitVec 5) : Word × Word := (p ++ fmt ++ 0#21, 0xFFE00000#32)
/-- Format V: the row of a vector op under COP2-VEC. -/
def cop2VecRow (op : BitVec 6) : Word × Word := (0b010010#6 ++ 0b10001#5 ++ 0#15 ++ op, 0xFFE0003F#32)

theorem rowOf_of_special (h : primary w = 0b000000#6) : rowOf (decode w) = specialRow (funct w) := by
  have hmask : (decode w).rowMask = 0xFC00003F#32 := by
    simp only [decode, h, decodeSpecial]; split <;> rfl
  rw [rowOf_decode, hmask, specialRow, ← Laws.RowMatch.formatS_and (w.extractLsb' 6 20), ← h, formatS_fields]

theorem rowOf_of_regimm (h : primary w = 0b000001#6) : rowOf (decode w) = regimmRow (regimmRt w) := by
  have hmask : (decode w).rowMask = 0xFC1F0000#32 := by
    simp only [decode, h, decodeRegimm]; split <;> rfl
  rw [rowOf_decode, hmask, regimmRow,
    ← Laws.RowMatch.formatR_and _ (w.extractLsb' 21 5) _ (w.extractLsb' 0 16), ← h, formatR_fields]

/-- R173: the exact entries' rows and the fallback's six. -/
theorem rowOf_of_cop0 (h : primary w = 0b010000#6) : rowOf (decode w) = fallbackRow (copFmt w) := by
  simp only [decode, h, decodeCop0]
  split
  next hf => rw [hf]; rfl
  next hf => rw [hf]; rfl
  next => rfl

theorem rowOf_of_cop1 (h : primary w = 0b010001#6) : rowOf (decode w) = copRow 0b010001#6 (copFmt w) := by
  have hmask : (decode w).rowMask = 0xFFE00000#32 := by
    simp only [decode, h, decodeCop1]; split <;> rfl
  rw [rowOf_decode, hmask, copRow, ← Laws.RowMatch.formatC_and _ _ (w.extractLsb' 0 21), ← h, formatC_fields]

theorem rowOf_of_cop2 (h : primary w = 0b010010#6) (hf : copFmt w ≠ 0b10001#5) :
    rowOf (decode w) = copRow 0b010010#6 (copFmt w) := by
  have hmask : (decode w).rowMask = 0xFFE00000#32 := by
    simp only [decode, h, decodeCop2]
    split
    next => rfl
    next hvec => exact absurd hvec hf
    next => rfl
  rw [rowOf_decode, hmask, copRow, ← Laws.RowMatch.formatC_and _ _ (w.extractLsb' 0 21), ← h, formatC_fields]

theorem rowOf_of_cop2Vec (h : primary w = 0b010010#6) (hf : copFmt w = 0b10001#5) :
    rowOf (decode w) = cop2VecRow (cop2VecOp w) := by
  have hmask : (decode w).rowMask = 0xFFE0003F#32 := by
    simp only [decode, h, hf, decodeCop2, decodeCop2Vec]; split <;> rfl
  have hfields : 0b010010#6 ++ 0b10001#5 ++ w.extractLsb' 6 15 ++ cop2VecOp w = w := by
    rw [← h, ← hf]; exact formatV_fields w
  rw [rowOf_decode, hmask, cop2VecRow, ← Laws.RowMatch.formatV_and _ _ (w.extractLsb' 6 15), hfields]

theorem rowOf_of_direct (h : primary w ∉ delegatedPrimaries) : rowOf (decode w) = primaryRow (primary w) := by
  have hdecode : decode w = decodePrimary (primary w) (w.extractLsb' 0 26) :=
    (congrArg decode (formatP_fields w)).symm.trans (decode_formatP _ h)
  have hmask : (decode w).rowMask = 0xFC000000#32 := by
    rw [hdecode]; unfold decodePrimary; split <;> rfl
  rw [rowOf_decode, hmask, primaryRow, ← Laws.RowMatch.formatP_and _ (w.extractLsb' 0 26), formatP_fields]

/-! ### A word matches one row only (R73) -/

theorem primary_cases (w : Word) : primary w = 0b000000#6 ∨ primary w = 0b000001#6 ∨ primary w = 0b010000#6 ∨
    primary w = 0b010001#6 ∨ primary w = 0b010010#6 ∨ primary w ∉ delegatedPrimaries := by
  simp only [delegatedPrimaries, List.mem_cons, List.not_mem_nil, or_false]
  tauto

/-! The fields of two words that agree on a mask. -/

theorem primary_and (v w : Word) : primary (v &&& w) = primary v &&& primary w := BitVec.extractLsb'_and
theorem funct_and (v w : Word) : funct (v &&& w) = funct v &&& funct w := BitVec.extractLsb'_and
theorem regimmRt_and (v w : Word) : regimmRt (v &&& w) = regimmRt v &&& regimmRt w := BitVec.extractLsb'_and
theorem copFmt_and (v w : Word) : copFmt (v &&& w) = copFmt v &&& copFmt w := BitVec.extractLsb'_and

section Agree
variable {v mask : Word} (h : w &&& mask = v &&& mask)
include h

theorem primary_eq_of_and_eq (hm : primary mask = BitVec.allOnes 6) : primary w = primary v := by
  simpa only [primary_and, hm, BitVec.and_allOnes] using congrArg primary h

theorem funct_eq_of_and_eq (hm : funct mask = BitVec.allOnes 6) : funct w = funct v := by
  simpa only [funct_and, hm, BitVec.and_allOnes] using congrArg funct h

theorem regimmRt_eq_of_and_eq (hm : regimmRt mask = BitVec.allOnes 5) : regimmRt w = regimmRt v := by
  simpa only [regimmRt_and, hm, BitVec.and_allOnes] using congrArg regimmRt h

theorem copFmt_eq_of_and_eq (hm : copFmt mask = BitVec.allOnes 5) : copFmt w = copFmt v := by
  simpa only [copFmt_and, hm, BitVec.and_allOnes] using congrArg copFmt h

end Agree

/-- R73: every row looks at the whole primary value. -/
theorem primary_rowMask (i : Instr) : primary i.rowMask = BitVec.allOnes 6 := by
  have hcop0 : ∀ fmt : BitVec 5, primary (fallbackRow fmt).2 = BitVec.allOnes 6 := by decide
  cases i with
  | mfc0Fallback fmt _ => exact hcop0 fmt
  | _ => simp only [Instr.rowMask]; rfl

/-- R173: the rows of COP0 are disjoint. -/
theorem fallbackRow_eq_of_and_eq : ∀ c fmt : BitVec 5,
    c &&& copFmt (fallbackRow fmt).2 = fmt &&& copFmt (fallbackRow fmt).2 → fallbackRow c = fallbackRow fmt := by
  decide +kernel

/-- R73: a word that agrees with another on the bits of that one's row has the same row. -/
theorem rowOf_decode_eq_of_and_eq {v : Word} (h : w &&& (rowOf (decode v)).2 = v &&& (rowOf (decode v)).2) :
    rowOf (decode w) = rowOf (decode v) := by
  have hp : primary w = primary v := primary_eq_of_and_eq h (primary_rowMask _)
  obtain hv | hv | hv | hv | hv | hv := primary_cases v
  · rw [rowOf_of_special hv] at h ⊢
    replace h : w &&& 0xFC00003F#32 = v &&& 0xFC00003F#32 := h
    rw [rowOf_of_special (hp.trans hv), funct_eq_of_and_eq h rfl]
  · rw [rowOf_of_regimm hv] at h ⊢
    replace h : w &&& 0xFC1F0000#32 = v &&& 0xFC1F0000#32 := h
    rw [rowOf_of_regimm (hp.trans hv), regimmRt_eq_of_and_eq h rfl]
  · rw [rowOf_of_cop0 hv] at h ⊢
    rw [rowOf_of_cop0 (hp.trans hv)]
    exact fallbackRow_eq_of_and_eq _ _ (by simpa only [copFmt_and] using congrArg copFmt h)
  · rw [rowOf_of_cop1 hv] at h ⊢
    replace h : w &&& 0xFFE00000#32 = v &&& 0xFFE00000#32 := h
    rw [rowOf_of_cop1 (hp.trans hv), copFmt_eq_of_and_eq h rfl]
  · by_cases hf : copFmt v = 0b10001#5
    · rw [rowOf_of_cop2Vec hv hf] at h ⊢
      replace h : w &&& 0xFFE0003F#32 = v &&& 0xFFE0003F#32 := h
      rw [rowOf_of_cop2Vec (hp.trans hv) ((copFmt_eq_of_and_eq h rfl).trans hf),
        cop2VecOp_eq_funct, funct_eq_of_and_eq h rfl, cop2VecOp_eq_funct]
    · rw [rowOf_of_cop2 hv hf] at h ⊢
      replace h : w &&& 0xFFE00000#32 = v &&& 0xFFE00000#32 := h
      have hc : copFmt w = copFmt v := copFmt_eq_of_and_eq h rfl
      rw [rowOf_of_cop2 (hp.trans hv) (hc ▸ hf), hc]
  · rw [rowOf_of_direct hv] at h ⊢
    rw [rowOf_of_direct (hp ▸ hv), hp]

/-- R73: a word that matches the row of a well-formed instruction decodes to an instruction of that row. -/
theorem rowOf_eq_of_match {i : Instr} (hwf : i.wf = true) (h : w &&& i.rowMask = i.rowMatch) :
    rowOf i = rowOf (decode w) := by
  rw [← decode_encode hwf] at h ⊢
  rw [← rowMatch_decode] at h
  exact (rowOf_decode_eq_of_and_eq h).symm

/-! ### The 290 rows -/

/-- The rows of the opcode table that a primary value leads to. -/
def rowsOf (p : BitVec 6) : Finset (Word × Word) :=
  match p with
  | 0b000000#6 => Finset.univ.image specialRow
  | 0b000001#6 => Finset.univ.image regimmRow
  | 0b010000#6 => Finset.univ.image fallbackRow
  | 0b010001#6 => Finset.univ.image (copRow 0b010001#6)
  | 0b010010#6 => (Finset.univ.erase 0b10001#5).image (copRow 0b010010#6) ∪ Finset.univ.image cop2VecRow
  | p => {primaryRow p}

/-- How many they are: a row for each value of the key field, but eight for the 32 formats of COP0 (R171 to R173), and
format 0b10001 of COP2 opens the 64 vector ops. -/
def rowCount (p : BitVec 6) : Nat :=
  match p with
  | 0b000000#6 => 64
  | 0b000001#6 => 32
  | 0b010000#6 => 8
  | 0b010001#6 => 32
  | 0b010010#6 => 31 + 64
  | _ => 1

theorem specialRow_injective : Function.Injective specialRow := fun f f' h => by
  simpa only [specialRow, funct_formatS] using congrArg (fun r : Word × Word => funct r.1) h

theorem regimmRow_injective : Function.Injective regimmRow := fun rt rt' h => by
  simpa only [regimmRow, regimmRt_formatR] using congrArg (fun r : Word × Word => regimmRt r.1) h

theorem copRow_injective (p : BitVec 6) : Function.Injective (copRow p) := fun c c' h => by
  simpa only [copRow, copFmt_formatC] using congrArg (fun r : Word × Word => copFmt r.1) h

theorem cop2VecRow_injective : Function.Injective cop2VecRow := fun op op' h => by
  simpa only [cop2VecRow, cop2VecOp_formatV] using congrArg (fun r : Word × Word => cop2VecOp r.1) h

theorem card_rowsOf (p : BitVec 6) : (rowsOf p).card = rowCount p := by
  unfold rowsOf rowCount
  split
  · exact Finset.card_image_of_injective _ specialRow_injective
  · exact Finset.card_image_of_injective _ regimmRow_injective
  · decide
  · exact Finset.card_image_of_injective _ (copRow_injective _)
  · rw [Finset.card_union_of_disjoint, Finset.card_image_of_injective _ (copRow_injective _),
      Finset.card_image_of_injective _ cop2VecRow_injective]
    · rfl
    · simp [Finset.disjoint_left, copRow, cop2VecRow]
  · rfl

/-- A family of rows is that of the words that meet a condition, if the condition fixes the row by a key field, and
every key of the family stands in a word that meets it. -/
theorem mem_image_row {α : Type} {row : α → Word × Word} {keys : Finset α} {cond : Word → Prop} (key : Word → α)
    (word : α → Word) (hword : ∀ a ∈ keys, cond (word a) ∧ key (word a) = a)
    (hrow : ∀ w, cond w → key w ∈ keys ∧ rowOf (decode w) = row (key w)) {r : Word × Word} :
    r ∈ keys.image row ↔ ∃ w, cond w ∧ rowOf (decode w) = r := by
  rw [Finset.mem_image]
  constructor
  · rintro ⟨a, ha, rfl⟩
    obtain ⟨hcond, hkey⟩ := hword a ha
    exact ⟨word a, hcond, by rw [(hrow _ hcond).2, hkey]⟩
  · rintro ⟨w, hcond, rfl⟩
    exact ⟨key w, (hrow w hcond).1, (hrow w hcond).2.symm⟩

theorem mem_cop2Rows {r : Word × Word} : r ∈ (Finset.univ.erase 0b10001#5).image (copRow 0b010010#6) ↔
    ∃ w, (primary w = 0b010010#6 ∧ copFmt w ≠ 0b10001#5) ∧ rowOf (decode w) = r := by
  refine mem_image_row copFmt (0b010010#6 ++ · ++ 0#21) (fun fmt hf => ?_)
    fun w ⟨hp, hc⟩ => ⟨Finset.mem_erase.2 ⟨hc, Finset.mem_univ _⟩, rowOf_of_cop2 hp hc⟩
  have hfmt := copFmt_formatC 0b010010#6 fmt 0#21
  exact ⟨⟨primary_formatC _ fmt _, hfmt.trans_ne (Finset.ne_of_mem_erase hf)⟩, hfmt⟩

theorem mem_cop2VecRows {r : Word × Word} : r ∈ Finset.univ.image cop2VecRow ↔
    ∃ w, (primary w = 0b010010#6 ∧ copFmt w = 0b10001#5) ∧ rowOf (decode w) = r :=
  mem_image_row cop2VecOp (0b010010#6 ++ 0b10001#5 ++ 0#15 ++ ·)
    (fun op _ => ⟨⟨primary_formatV _ _ _ op, copFmt_formatV _ _ _ op⟩, cop2VecOp_formatV _ _ _ op⟩)
    fun _ ⟨hp, hc⟩ => ⟨Finset.mem_univ _, rowOf_of_cop2Vec hp hc⟩

/-- The rows of a primary value are those of the words with that value. -/
theorem mem_rowsOf {p : BitVec 6} {r : Word × Word} :
    r ∈ rowsOf p ↔ ∃ w, primary w = p ∧ rowOf (decode w) = r := by
  unfold rowsOf
  split
  · exact mem_image_row funct (0b000000#6 ++ 0#20 ++ ·) (fun f _ => ⟨primary_formatS _ _ f, funct_formatS _ _ f⟩)
      fun w h => ⟨Finset.mem_univ _, rowOf_of_special h⟩
  · exact mem_image_row regimmRt (0b000001#6 ++ 0#5 ++ · ++ 0#16)
      (fun rt _ => ⟨primary_formatR _ _ rt _, regimmRt_formatR _ _ rt _⟩)
      fun w h => ⟨Finset.mem_univ _, rowOf_of_regimm h⟩
  · exact mem_image_row copFmt (0b010000#6 ++ · ++ 0#21)
      (fun fmt _ => ⟨primary_formatC _ fmt _, copFmt_formatC _ fmt _⟩)
      fun w h => ⟨Finset.mem_univ _, rowOf_of_cop0 h⟩
  · exact mem_image_row copFmt (0b010001#6 ++ · ++ 0#21)
      (fun fmt _ => ⟨primary_formatC _ fmt _, copFmt_formatC _ fmt _⟩)
      fun w h => ⟨Finset.mem_univ _, rowOf_of_cop1 h⟩
  · rw [Finset.mem_union, mem_cop2Rows, mem_cop2VecRows, ← exists_or]
    refine exists_congr fun w => ?_
    tauto
  next =>
    have hp : p ∉ delegatedPrimaries := by simp_all [delegatedPrimaries]
    rw [← Finset.image_singleton primaryRow p]
    exact mem_image_row primary (· ++ 0#26)
      (fun q hq => ⟨(primary_formatP q _).trans (Finset.mem_singleton.1 hq), primary_formatP q _⟩)
      fun w h => ⟨Finset.mem_singleton.2 h, rowOf_of_direct (h ▸ hp)⟩

theorem primary_rowOf_decode (w : Word) : primary (rowOf (decode w)).1 = primary w := by
  rw [rowOf_decode, primary_and, primary_rowMask, BitVec.and_allOnes]

/-- The rows of the well-formed instructions, by the primary value. -/
theorem rows_eq_biUnion :
    { row : Word × Word | ∃ i : Instr, i.wf = true ∧ row = (i.rowMatch, i.rowMask) } =
      ↑(Finset.univ.biUnion rowsOf) := by
  ext r
  simp only [Set.mem_ofPred_eq, Finset.mem_coe, Finset.mem_biUnion, Finset.mem_univ, true_and, mem_rowsOf]
  constructor
  · rintro ⟨i, hwf, rfl⟩
    exact ⟨_, encode i, rfl, congrArg rowOf (decode_encode hwf)⟩
  · rintro ⟨_, w, rfl, rfl⟩
    exact ⟨decode w, (wf_and_encode_decode w).1, rfl⟩

theorem rowsOf_disjoint {p q : BitVec 6} (h : p ≠ q) : Disjoint (rowsOf p) (rowsOf q) := by
  refine Finset.disjoint_left.2 fun r hp hq => h ?_
  obtain ⟨w, rfl, rfl⟩ := mem_rowsOf.1 hp
  obtain ⟨v, rfl, hr⟩ := mem_rowsOf.1 hq
  rw [← primary_rowOf_decode w, ← hr, primary_rowOf_decode]

theorem card_rows : (Finset.univ.biUnion rowsOf).card = 290 :=
  calc (Finset.univ.biUnion rowsOf).card
    _ = ∑ p, (rowsOf p).card := Finset.card_biUnion fun _ _ _ _ => rowsOf_disjoint
    _ = ∑ p, rowCount p := Finset.sum_congr rfl fun p _ => card_rowsOf p
    _ = 290 := by decide

/-- R173: the six patterns of the COP0 fallback. -/
def fallbackPatterns : List (Word × Word) :=
  [(0x40200000#32, 0xFFE00000#32), (0x40400000#32, 0xFFC00000#32), (0x40A00000#32, 0xFFE00000#32),
    (0x40C00000#32, 0xFFC00000#32), (0x41000000#32, 0xFF000000#32), (0x42000000#32, 0xFE000000#32)]

theorem fallbackRow_mem_patterns : ∀ fmt : BitVec 5, (fmt != 0b00000#5 && fmt != 0b00100#5) = true →
    fallbackRow fmt ∈ fallbackPatterns := by decide

theorem exists_fallbackRow {r : Word × Word} (h : r ∈ fallbackPatterns) : ∃ fmt : BitVec 5,
    (fmt != 0b00000#5 && fmt != 0b00100#5) = true ∧ r = fallbackRow fmt := by
  simp only [fallbackPatterns, List.mem_cons, List.not_mem_nil, or_false] at h
  obtain rfl | rfl | rfl | rfl | rfl | rfl := h
  · exact ⟨1#5, rfl, rfl⟩
  · exact ⟨2#5, rfl, rfl⟩
  · exact ⟨5#5, rfl, rfl⟩
  · exact ⟨6#5, rfl, rfl⟩
  · exact ⟨8#5, rfl, rfl⟩
  · exact ⟨16#5, rfl, rfl⟩

theorem fallbackRows_eq :
    { row : Word × Word | ∃ fmt ignored, (Instr.mfc0Fallback fmt ignored).wf = true ∧
        row = ((Instr.mfc0Fallback fmt ignored).rowMatch, (Instr.mfc0Fallback fmt ignored).rowMask) } =
      { row | row ∈ fallbackPatterns } := by
  ext r
  constructor
  · rintro ⟨fmt, x, hwf, rfl⟩
    exact fallbackRow_mem_patterns fmt hwf
  · intro hr
    obtain ⟨fmt, hwf, rfl⟩ := exists_fallbackRow hr
    exact ⟨fmt, 0#21, hwf, rfl⟩

/-- Settles O8: the table that decodes a word gives its row, and the primary values split the rows. -/
theorem tableRowsPartitionTheWords : Obligations.TableRowsPartitionTheWords := by
  refine ⟨fun w => ⟨rowMatch_decode w, fun i hwf h => ?_⟩, ?_, ?_⟩
  · obtain ⟨hmatch, hmask⟩ := Prod.ext_iff.1 (rowOf_eq_of_match hwf h)
    exact ⟨hmask, hmatch⟩
  · rw [rows_eq_biUnion, Set.ncard_coe_finset, card_rows]
  · rw [fallbackRows_eq]
    simp only [fallbackPatterns, List.mem_cons, List.not_mem_nil, or_false]
    rfl

end Sys2Proof.Machine
end

section
/-! PROOFS. The classifier: one evaluation is `Instruction::decode` (R76), the outcome depends on the bits of the path
only (R77), the order of the arms does not matter (R74), and the testable properties (R78). -/

namespace Sys2Proof.Machine

/-! ### One evaluation (R70, R76) -/

/-- Settles O9, from what one evaluation does and from the word that every result carries. -/
theorem evaluationIsInstructionDecode : Obligations.EvaluationIsInstructionDecode := fun w s =>
  ⟨evaluate_eq w s, rfl, fun _ => decodeWord_ok_word, fun _ he => (decodeWord_error he).1⟩

/-- Settles O11: both states get the answer of the instruction on their common word, and nothing else. -/
theorem blockReadsOnlyTheWord : Obligations.BlockReadsOnlyTheWord := fun i s s' hw =>
  ⟨answer i s.word, _, _, exec_eq i s, exec_eq i s', rfl, congrArg (answer i) hw.symm, rfl, rfl, rfl, rfl, rfl, rfl,
    rfl, fun _ => rfl⟩

/-! ### The bits of the path (R77) -/

section Path
variable {m : CodeMaps} {w w₁ w₂ : Word}

theorem outcome_classifyRegimm_congr (h : regimmRt w₁ = regimmRt w₂) :
    outcome (classifyRegimm w₁) = outcome (classifyRegimm w₂) := by
  simp only [classifyRegimm, h]
  split_ifs <;> rfl

theorem outcome_classifySpecial_congr (h : funct w₁ = funct w₂) :
    outcome (classifySpecial m w₁) = outcome (classifySpecial m w₂) := by
  cases hf : m.specialOf? (funct w₂) with
  | some t => rw [classifySpecial_of_some (h ▸ hf), classifySpecial_of_some hf]
  | none => rw [classifySpecial_of_none (h ▸ hf), classifySpecial_of_none hf, h]; rfl

theorem classifyCop0_congr (h : copFmt w₁ = copFmt w₂) : classifyCop0 w₁ = classifyCop0 w₂ := by
  simp only [classifyCop0, h]

theorem outcome_classifyCop1_congr (h : copFmt w₁ = copFmt w₂) :
    outcome (classifyCop1 w₁) = outcome (classifyCop1 w₂) := by
  simp only [classifyCop1, h]
  split <;> rfl

theorem outcome_classifyCop2Vec_congr (h : cop2VecOp w₁ = cop2VecOp w₂) :
    outcome (classifyCop2Vec w₁) = outcome (classifyCop2Vec w₂) := by
  simp only [classifyCop2Vec, h]
  split <;> rfl

/-- R77: only format 0b10001 looks at bits 5:0 too. -/
theorem outcome_classifyCop2_congr (h : copFmt w₁ = copFmt w₂)
    (hop : copFmt w₁ = 0b10001#5 → cop2VecOp w₁ = cop2VecOp w₂) :
    outcome (classifyCop2 w₁) = outcome (classifyCop2 w₂) := by
  rw [h] at hop
  simp only [classifyCop2, h]
  split_ifs with _ hvec
  · rfl
  · exact outcome_classifyCop2Vec_congr (hop hvec)
  · rfl

/-- R77 over any maps: the outcome depends on the primary value and on the key field of the table it selects. -/
theorem outcome_classifyWith_congr (hp : primary w₁ = primary w₂)
    (hf : primary w₁ = 0b000000#6 → funct w₁ = funct w₂)
    (hr : primary w₁ = 0b000001#6 → regimmRt w₁ = regimmRt w₂)
    (hc : primary w₁ = 0b010000#6 ∨ primary w₁ = 0b010001#6 ∨ primary w₁ = 0b010010#6 → copFmt w₁ = copFmt w₂)
    (hv : primary w₁ = 0b010010#6 → copFmt w₁ = 0b10001#5 → cop2VecOp w₁ = cop2VecOp w₂) :
    outcome (classifyWith m w₁) = outcome (classifyWith m w₂) := by
  rw [hp] at hf hr hc hv
  cases hd : m.directOf? (primary w₂) with
  | some t => rw [classifyWith_of_direct (hp ▸ hd), classifyWith_of_direct hd]
  | none =>
    simp only [classifyWith, hp, hd]
    split_ifs with h1 h0 h16 h17 h18 hu
    · exact outcome_classifyRegimm_congr (hr h1)
    · exact outcome_classifySpecial_congr (hf h0)
    · exact congrArg outcome (classifyCop0_congr (hc (.inl h16)))
    · exact outcome_classifyCop1_congr (hc (.inr (.inl h17)))
    · exact outcome_classifyCop2_congr (hc (.inr (.inr h18))) (hv h18)
    · rfl
    · rfl

/-- The verdict of a decoding is the outcome of the classification. -/
theorem verdict_decodeWord (w : Word) : verdict (decodeWord w) = outcome (classify w) := by
  rw [decodeWord, decodeWith_eq_map, ← classify]
  cases classify w <;> rfl

/-- R77: a word with bits 15:6 replaced. -/
def withMiddleBits (w : Word) (x : BitVec 10) : Word := w.extractLsb' 16 16 ++ x ++ w.extractLsb' 0 6

theorem primary_withMiddleBits (x : BitVec 10) : primary (withMiddleBits w x) = primary w := by
  ext i hi; simp [primary, withMiddleBits]; grind

theorem regimmRt_withMiddleBits (x : BitVec 10) : regimmRt (withMiddleBits w x) = regimmRt w := by
  ext i hi; simp [regimmRt, withMiddleBits]; grind

theorem copFmt_withMiddleBits (x : BitVec 10) : copFmt (withMiddleBits w x) = copFmt w := by
  ext i hi; simp [copFmt, withMiddleBits]; grind

theorem funct_withMiddleBits (x : BitVec 10) : funct (withMiddleBits w x) = funct w :=
  BitVec.extractLsb'_append_eq_right

end Path

/-- Settles O28: the outcome is that of the path's bits, and none of them is among bits 15:6. -/
theorem ignoredBitsDoNotMatter : Obligations.IgnoredBitsDoNotMatter := by
  refine ⟨fun w₁ w₂ hp hf hr hc hv => ?_, fun w x => ?_⟩ <;> rw [verdict_decodeWord, verdict_decodeWord]
  · exact outcome_classifyWith_congr hp hf hr hc hv
  · exact outcome_classifyWith_congr (w₁ := withMiddleBits w x) (primary_withMiddleBits x)
      (fun _ => funct_withMiddleBits x) (fun _ => regimmRt_withMiddleBits x) (fun _ => copFmt_withMiddleBits x)
      (fun _ _ => funct_withMiddleBits x)

/-! ### The arms of the top-level test (R74) -/

section Arms
variable {m : CodeMaps} {w : Word}

/-- R71: trying the arms in the listed order is the classifier, over any maps. -/
theorem classifyByArms_topArms (m : CodeMaps) (w : Word) : classifyByArms (topArms m) w = classifyWith m w := by
  cases hd : m.directOf? (primary w) with
  | some t => rw [classifyWith_of_direct hd, classifyByArms, topArms, List.findSome?_cons]; simp [hd]
  | none =>
    simp only [classifyByArms, topArms, classifyWith, hd, List.findSome?_cons, List.findSome?_nil]
    split_ifs <;> rfl

/-- Which of the seven arms claim a word, in the listed order. -/
def claims (direct : Bool) (p : BitVec 6) : List Bool :=
  [direct, p = 0b000001#6, p = 0b000000#6, p = 0b010000#6, p = 0b010001#6, p = 0b010010#6,
    p = 0b011111#6 ∨ p = 0b110010#6 ∨ p = 0b011100#6]

theorem map_isSome_topArms (m : CodeMaps) (w : Word) :
    (topArms m).map (fun arm => (arm w).isSome) = claims (m.directOf? (primary w)).isSome (primary w) := by
  simp [topArms, claims, apply_ite Option.isSome]

/-- R73: the seven arms ask for different primary values. -/
theorem count_claims_le_one : ∀ p : BitVec 6, (claims false p).count true ≤ 1 ∧
    (p ∉ CodeMaps.claimed → (claims true p).count true ≤ 1) := by decide

/-- R73, R74: under admissible maps at most one arm claims a word. -/
theorem countP_topArms_le_one (hm : m.Admissible) (w : Word) :
    (topArms m).countP (fun arm => (arm w).isSome) ≤ 1 := by
  have hcount : (topArms m).countP (fun arm => (arm w).isSome) =
      (claims (m.directOf? (primary w)).isSome (primary w)).count true := by
    rw [← map_isSome_topArms, List.count, List.countP_map]; simp [Function.comp_def]
  rw [hcount]
  obtain ⟨hfalse, htrue⟩ := count_claims_le_one (primary w)
  cases hd : m.directOf? (primary w) with
  | none => exact hfalse
  | some t => exact htrue fun hc => by rw [directOf?_claimed hm hc] at hd; cases hd

/-- R74: among arms of which at most one claims the word, the one found first is the same in every order. -/
theorem classifyByArms_perm {arms arms' : List (Word → Option (Except DecodeError OpCode))} (hperm : arms.Perm arms')
    (hone : arms'.countP (fun arm => (arm w).isSome) ≤ 1) : classifyByArms arms w = classifyByArms arms' w := by
  have hclaims := hperm.filterMap fun arm => arm w
  have heq : arms.filterMap (fun arm => arm w) = arms'.filterMap fun arm => arm w := by
    rw [← List.length_filterMap_eq_countP] at hone
    obtain hlen | hlen := Nat.le_one_iff_eq_zero_or_eq_one.1 hone
    · rw [List.length_eq_zero_iff.1 hlen] at hclaims ⊢
      exact List.perm_nil.1 hclaims
    · obtain ⟨r, hr⟩ := List.length_eq_one_iff.1 hlen
      rw [hr] at hclaims ⊢
      exact List.perm_singleton.1 hclaims
  rw [classifyByArms, classifyByArms, ← List.head?_filterMap, ← List.head?_filterMap, heq]

end Arms

/-- Settles O35: at most one arm claims a word, so every order finds what the order of R71 finds. -/
theorem armOrderDoesNotMatter : Obligations.ArmOrderDoesNotMatter :=
  ⟨fun _ hm w => countP_topArms_le_one hm w,
    fun m hm _ hperm w =>
      (classifyByArms_perm hperm (countP_topArms_le_one hm w)).trans (classifyByArms_topArms m w),
    classifyByArms_topArms⟩

/-! ### The testable properties (R78) -/

section Properties
variable {m : CodeMaps} {w : Word}

theorem classifyWith_regimm (hm : m.Admissible) (h : primary w = 0b000001#6) : classifyWith m w = classifyRegimm w := by
  simp [classifyWith, h, directOf?_claimed hm (show 0b000001#6 ∈ CodeMaps.claimed by decide)]

theorem classifyWith_cop0 (hm : m.Admissible) (h : primary w = 0b010000#6) : classifyWith m w = classifyCop0 w := by
  simp [classifyWith, h, directOf?_claimed hm (show 0b010000#6 ∈ CodeMaps.claimed by decide)]

/-- R173: the exact entries apart, every format gives MFC0. -/
theorem classifyCop0_fallback (h : copFmt w ≠ 0b00100#5) : classifyCop0 w = .ok .MFC0 := by
  simp [classifyCop0, h]

theorem classifyRegimm_unmapped (h : regimmRt w = 0b11111#5) : classifyRegimm w = .error ⟨.REGIMM, 0b11111, w⟩ := by
  simp [classifyRegimm, h]

/-- R72, R192: an error carries the word, and a value within the field of its table. -/
theorem classifyWith_error_wf {e : DecodeError} (h : classifyWith m w = .error e) :
    e.word = w ∧ e.fieldValue < 64 ∧
      (e.table = .REGIMM ∨ e.table = .COP1 ∨ e.table = .COP2 → e.fieldValue < 32) := by
  obtain rfl | rfl | rfl | rfl | rfl | rfl := classifyWith_error h
  case inl | inr.inr.inl | inr.inr.inr.inl =>
    dsimp only; exact ⟨rfl, by omega, fun _ => by omega⟩
  all_goals
    dsimp only; exact ⟨rfl, by omega, by simp⟩

theorem testableProperties (hm : m.Admissible) : TestableProperties m where
  total w := by
    cases h : classifyWith m w with
    | ok t => exact .inl ⟨t, mem_opCodeAll t, rfl⟩
    | error e =>
      obtain ⟨rfl, hbound⟩ := classifyWith_error_wf h
      exact .inr ⟨e.table, e.fieldValue, rfl, hbound⟩
  disjoint := countP_topArms_le_one hm
  deterministic w₁ w₂ :=
    ⟨outcome_classifyRegimm_congr, outcome_classifySpecial_congr, fun h => congrArg outcome (classifyCop0_congr h),
      outcome_classifyCop1_congr, fun h hvec => outcome_classifyCop2_congr h fun hf => absurd hf hvec,
      outcome_classifyCop2Vec_congr⟩
  addiu := by
    have hdirect : m.directOf? 0b001001#6 = some .ADDIU :=
      hm.primary_addiu ▸ directOf?_primaryCode hm (by decide)
    exact ⟨fun w h => classifyWith_of_direct (h ▸ hdirect), classifyWith_of_direct hdirect⟩
  sll := by
    have hspecial : m.specialOf? 0b000000#6 = some .SLL := hm.funct_sll ▸ specialOf?_functCode hm (by decide)
    rw [classifyWith_special hm (by decide)]
    exact classifySpecial_of_some hspecial
  regimm := by
    refine ⟨?_, fun w hp hr => (classifyWith_regimm hm hp).trans (classifyRegimm_unmapped hr)⟩
    rw [classifyWith_regimm hm (by decide)]; rfl
  cop0_fallback w hp _ hmtc0 := (classifyWith_cop0 hm hp).trans (classifyCop0_fallback hmtc0)
  error_table w e h :=
    ⟨fun hp => classifyCop0_ne_error w e ((classifyWith_cop0 hm hp).symm.trans h), by cases e.table <;> decide⟩
  word_eq w := by
    cases h : classifyWith m w with
    | ok t => simp [decodeWith_of_ok h]
    | error e => simp [decodeWith_of_error h, (classifyWith_error_wf h).1]

end Properties

/-- Settles O51, property by property; the standard maps are admissible. -/
theorem classifierHasTheTestableProperties : Obligations.ClassifierHasTheTestableProperties :=
  ⟨fun _ => testableProperties, testableProperties standardMapsAreAdmissible⟩

end Sys2Proof.Machine
end

section
/-! PROOFS. Which words have which tag: the values of the fields by which the dispatch gives each tag (R71), the rules of
the 30 direct mnemonics (R90 to R120), and how many words each tag has. -/

namespace Sys2Proof.Machine

/-! ### The words of a tag (R71) -/

/-- R51, R131 to R135: the rt value of each REGIMM mnemonic. -/
def regimmTable : List (OpCode × BitVec 5) :=
  [(.BGEZL, 0b00011#5), (.BGEZAL, 0b10001#5), (.BLTZ, 0b00000#5), (.BLTZAL, 0b10000#5), (.TGEI, 0b01000#5)]

/-- The REGIMM map, consulted on the mnemonics of its table only. -/
def regimmCode (t : OpCode) : BitVec 5 := (regimmTable.lookup t).getD 0

/-- The words the dispatch gives a tag, by the fields it looks at (R90, R130, R140, R170 to R173, R177, R181, R183,
R190). -/
def HasTag (t : OpCode) (w : Word) : Prop :=
  if t ∈ OpCode.direct then primary w = standardMaps.primaryCode t
  else if t ∈ OpCode.regimm then primary w = 0b000001#6 ∧ regimmRt w = regimmCode t
  else if t ∈ OpCode.special then primary w = 0b000000#6 ∧ funct w = standardMaps.functCode t
  else match t with
    | .MFC0 => primary w = 0b010000#6 ∧ copFmt w ≠ 0b00100#5
    | .MTC0 => primary w = 0b010000#6 ∧ copFmt w = 0b00100#5
    | .MFC1 => primary w = 0b010001#6 ∧ copFmt w = 0b00000#5
    | .MFC2 => primary w = 0b010010#6 ∧ copFmt w = 0b00000#5
    | .VNE => primary w = 0b010010#6 ∧ copFmt w = 0b10001#5 ∧ cop2VecOp w = 0b100010#6
    | .UNKNOWN => primary w = 0b011111#6 ∨ primary w = 0b110010#6 ∨ primary w = 0b011100#6
    | _ => False

section Tags
variable {m : CodeMaps} {w : Word} {t : OpCode}

theorem hasTag_direct_iff (ht : t ∈ OpCode.direct) : HasTag t w ↔ primary w = standardMaps.primaryCode t :=
  iff_of_eq (if_pos ht)

theorem hasTag_regimm_iff (ht : t ∈ OpCode.regimm) :
    HasTag t w ↔ primary w = 0b000001#6 ∧ regimmRt w = regimmCode t := by
  have hd : ∀ t ∈ OpCode.regimm, t ∉ OpCode.direct := by decide
  unfold HasTag
  rw [if_neg (hd t ht), if_pos ht]

theorem hasTag_special_iff (ht : t ∈ OpCode.special) :
    HasTag t w ↔ primary w = 0b000000#6 ∧ funct w = standardMaps.functCode t := by
  have hn : ∀ t ∈ OpCode.special, t ∉ OpCode.direct ∧ t ∉ OpCode.regimm := by decide
  unfold HasTag
  rw [if_neg (hn t ht).1, if_neg (hn t ht).2, if_pos ht]

theorem hasTag_mfc0_iff : HasTag .MFC0 w ↔ primary w = 0b010000#6 ∧ copFmt w ≠ 0b00100#5 := Iff.rfl

theorem hasTag_mtc0_iff : HasTag .MTC0 w ↔ primary w = 0b010000#6 ∧ copFmt w = 0b00100#5 := Iff.rfl

theorem hasTag_mfc1_iff : HasTag .MFC1 w ↔ primary w = 0b010001#6 ∧ copFmt w = 0b00000#5 := Iff.rfl

theorem hasTag_mfc2_iff : HasTag .MFC2 w ↔ primary w = 0b010010#6 ∧ copFmt w = 0b00000#5 := Iff.rfl

theorem hasTag_vne_iff :
    HasTag .VNE w ↔ primary w = 0b010010#6 ∧ copFmt w = 0b10001#5 ∧ cop2VecOp w = 0b100010#6 := Iff.rfl

theorem hasTag_unknown_iff :
    HasTag .UNKNOWN w ↔ primary w = 0b011111#6 ∨ primary w = 0b110010#6 ∨ primary w = 0b011100#6 := Iff.rfl

/-! What each table says of a success. -/

theorem directOf?_eq_some {p : BitVec 6} (h : m.directOf? p = some t) : t ∈ OpCode.direct ∧ m.primaryCode t = p :=
  ⟨List.mem_of_find?_eq_some h, by simpa using List.find?_some h⟩

theorem specialOf?_eq_some {f : BitVec 6} (h : m.specialOf? f = some t) : t ∈ OpCode.special ∧ m.functCode t = f :=
  ⟨List.mem_of_find?_eq_some h, by simpa using List.find?_some h⟩

theorem classifySpecial_ok (h : classifySpecial m w = .ok t) : t ∈ OpCode.special ∧ m.functCode t = funct w := by
  cases hf : m.specialOf? (funct w) with
  | none => rw [classifySpecial_of_none hf] at h; cases h
  | some u => rw [classifySpecial_of_some hf] at h; cases h; exact specialOf?_eq_some hf

/-- R130: each of the five rt values gives its own tag. -/
theorem classifyRegimm_eq_ok_iff : classifyRegimm w = .ok t ↔ t ∈ OpCode.regimm ∧ regimmRt w = regimmCode t := by
  constructor
  · intro h
    simp only [classifyRegimm] at h
    split_ifs at h with hr hr hr hr hr <;> cases h <;> exact ⟨by decide, hr⟩
  · simp only [OpCode.regimm, List.mem_cons, List.not_mem_nil, or_false]
    rintro ⟨rfl | rfl | rfl | rfl | rfl, hr⟩ <;> rw [classifyRegimm, hr] <;> rfl

theorem hasTag_of_classify (h : classify w = .ok t) : HasTag t w := by
  simp only [classify, classifyWith] at h
  split at h
  next hd =>
    cases h
    obtain ⟨ht, hp⟩ := directOf?_eq_some hd
    exact (hasTag_direct_iff ht).2 hp.symm
  split_ifs at h with h1 h0 h16 h17 h18 hu
  · obtain ⟨ht, hr⟩ := classifyRegimm_eq_ok_iff.1 h
    exact (hasTag_regimm_iff ht).2 ⟨h1, hr⟩
  · obtain ⟨ht, hf⟩ := classifySpecial_ok h
    exact (hasTag_special_iff ht).2 ⟨h0, hf.symm⟩
  · unfold classifyCop0 at h
    split_ifs at h with hc hc <;> cases h
    · exact hasTag_mfc0_iff.2 ⟨h16, by rw [hc]; decide⟩
    · exact hasTag_mtc0_iff.2 ⟨h16, hc⟩
    · exact hasTag_mfc0_iff.2 ⟨h16, hc⟩
  · unfold classifyCop1 at h
    split_ifs at h with hc
    cases h
    exact hasTag_mfc1_iff.2 ⟨h17, hc⟩
  · unfold classifyCop2 classifyCop2Vec at h
    split_ifs at h with hc hc hv <;> cases h
    · exact hasTag_mfc2_iff.2 ⟨h18, hc⟩
    · exact hasTag_vne_iff.2 ⟨h18, hc, hv⟩
  · cases h
    exact hasTag_unknown_iff.2 hu

theorem classify_of_hasTag (h : HasTag t w) : classify w = .ok t := by
  unfold HasTag at h
  split_ifs at h with hd hr hs
  · exact classifyWith_of_direct (h ▸ directOf?_primaryCode standardMapsAreAdmissible hd)
  · exact (classify_of_regimm h.1).trans (classifyRegimm_eq_ok_iff.2 ⟨hr, h.2⟩)
  · exact (classify_of_special h.1).trans
      (classifySpecial_of_some (h.2 ▸ specialOf?_functCode standardMapsAreAdmissible hs))
  split at h
  · exact (classify_of_cop0 h.1).trans (classifyCop0_fallback h.2)
  · rw [classify_of_cop0 h.1, classifyCop0, h.2]; rfl
  · rw [classify_of_cop1 h.1, classifyCop1, h.2]; rfl
  · rw [classify_of_cop2 h.1, classifyCop2, h.2]; rfl
  · obtain ⟨hp, hc, hv⟩ := h
    rw [classify_of_cop2 hp, classifyCop2, hc, classifyCop2Vec, hv]; rfl
  · exact classify_of_unknown (by simpa [unknownPrimaries] using h)
  · exact h.elim

/-- R76: the result is the success with a tag exactly for the words of that tag. -/
theorem decodeWord_eq_ok_iff : decodeWord w = .ok ⟨t, w⟩ ↔ HasTag t w := by
  refine ⟨fun h => ?_, fun h => decodeWith_of_ok (classify_of_hasTag h)⟩
  cases hc : classify w with
  | ok u => rw [decodeWord, decodeWith_of_ok hc] at h; cases h; exact hasTag_of_classify hc
  | error e => rw [decodeWord, decodeWith_of_error hc] at h; cases h

theorem tag?_decodeWord_iff : tag? (decodeWord w) = some t ↔ HasTag t w := by
  rw [← decodeWord_eq_ok_iff]
  cases hd : decodeWord w with
  | ok i =>
    obtain ⟨u, v⟩ := i
    obtain rfl : v = w := decodeWord_ok_word hd
    simp [tag?]
  | error e => simp [tag?]

end Tags

/-! ### The direct rules (R90) -/

section Direct
variable {w : Word} {t : OpCode}

/-- The words of a primary value are those from the one with every ignored bit 0 to the one with every ignored bit 1. -/
theorem primary_eq_iff_range (p : BitVec 6) :
    primary w = p ↔ p ++ 0#26 ≤ w ∧ w ≤ p ++ BitVec.allOnes 26 := by
  have hnum (x : BitVec 26) : (p ++ x).toNat = p.toNat * 2 ^ 26 + x.toNat := by
    rw [BitVec.toNat_append, ← Nat.shiftLeft_add_eq_or_of_lt x.isLt, Nat.shiftLeft_eq]
  rw [BitVec.le_def, BitVec.le_def, hnum, hnum, ← BitVec.toNat_inj, toNat_primary, BitVec.toNat_allOnes,
    BitVec.toNat_ofNat]
  omega

theorem primaryCode_not_delegated : ∀ t ∈ OpCode.direct, standardMaps.primaryCode t ∉ delegatedPrimaries := by decide

/-- The constructor of each mnemonic is its primary value's, and gives its tag whatever the ignored bits are. -/
theorem exec_decodePrimary_direct (ht : t ∈ OpCode.direct) (ignored : BitVec 26) (s : State) :
    exec (decodePrimary (standardMaps.primaryCode t) ignored) s = s.succeed t := by
  cases t with
  | ADDIU | BNE | LUI | LW | SW | ORI | BEQ | JAL | ADDI | ANDI | SLTIU | CACHE | BNEL | SLTI | BEQL | BLEZL | SB | LBU
  | XORI | J | LB | LWC1 | LH | SC | SCD | LWL | DADDI | LL | BLEZ | SD => rfl
  | _ => exact absurd ht (by decide)

/-- R90: the rule of a direct mnemonic, for the primary value of R49 and the constructor the decoder has for it. -/
theorem directRule (ht : t ∈ OpCode.direct) :
    DirectRule t (standardMaps.primaryCode t) (decodePrimary (standardMaps.primaryCode t))
      (standardMaps.primaryCode t ++ 0#26) (standardMaps.primaryCode t ++ BitVec.allOnes 26) := by
  refine ⟨fun w hp => ?_, fun w => decodeWord_eq_ok_iff.trans (hasTag_direct_iff ht),
    fun w => primary_eq_iff_range _, exec_decodePrimary_direct ht⟩
  rw [← decode_formatP _ (primaryCode_not_delegated t ht), ← hp, formatP_fields]

/-- R191: the primary values of a list are PRIMARY errors if neither a mnemonic nor a table nor UNKNOWN has one. -/
theorem decodeWord_of_unmapped {ps : List (BitVec 6)}
    (hps : ∀ p ∈ ps, p ∉ primaryTable.map Prod.snd ∧ p ∉ CodeMaps.claimed) :
    ∀ p ∈ ps, ∀ w, primary w = p → decodeWord w = .error ⟨.PRIMARY, p.toNat, w⟩ := by
  rintro p hp w rfl
  obtain ⟨hd, hc⟩ := hps _ hp
  exact decodeWith_of_error (classify_of_unmapped hd hc)

end Direct

/-! The rules of the mnemonics, with their values, constructors and words as R91 to R120 write them: those of `directRule`,
evaluated. -/

/-- Settles O14, rule by rule. -/
theorem directRulesAddiuToAndi : Obligations.DirectRulesAddiuToAndi := by
  refine ⟨?_, ?_, ?_, ?_, ?_, ?_, ?_, ?_, ?_, ?_⟩ <;> exact directRule (by decide)

/-- Settles O15, rule by rule; the neighbouring values are in no table. -/
theorem directRulesSltiuToJ : Obligations.DirectRulesSltiuToJ := by
  refine ⟨?_, ?_, ?_, ?_, ?_, ?_, ?_, ?_, ?_, ?_, decodeWord_of_unmapped (by decide)⟩ <;> exact directRule (by decide)

/-- Settles O16, rule by rule; the neighbouring values are in no table, but for the one of UNKNOWN. -/
theorem directRulesLbToSd : Obligations.DirectRulesLbToSd := by
  refine ⟨?_, ?_, ?_, ?_, ?_, ?_, ?_, ?_, ?_, ?_, decodeWord_of_unmapped (by decide),
    fun w hp => decodeWord_eq_ok_iff.2 (hasTag_unknown_iff.2 (.inr (.inl hp)))⟩ <;> exact directRule (by decide)

/-! ### Counting words by their fields -/

/-! R48: in each format a word is the values of its fields, all 32 bits of it. -/

/-- Format P: primary, ignored bits. -/
def fieldsP : Word ≃ BitVec 6 × BitVec 26 where
  toFun w := (primary w, w.extractLsb' 0 26)
  invFun x := x.1 ++ x.2
  left_inv := formatP_fields
  right_inv x := by simp

/-- Format S: primary, ignored bits, funct. -/
def fieldsS : Word ≃ BitVec 6 × BitVec 20 × BitVec 6 where
  toFun w := (primary w, w.extractLsb' 6 20, funct w)
  invFun x := x.1 ++ x.2.1 ++ x.2.2
  left_inv := formatS_fields
  right_inv x := by simp

/-- Format R: primary, ignored bits, rt, ignored bits. -/
def fieldsR : Word ≃ BitVec 6 × BitVec 5 × BitVec 5 × BitVec 16 where
  toFun w := (primary w, w.extractLsb' 21 5, regimmRt w, w.extractLsb' 0 16)
  invFun x := x.1 ++ x.2.1 ++ x.2.2.1 ++ x.2.2.2
  left_inv := formatR_fields
  right_inv x := by simp

/-- Format C: primary, format, ignored bits. -/
def fieldsC : Word ≃ BitVec 6 × BitVec 5 × BitVec 21 where
  toFun w := (primary w, copFmt w, w.extractLsb' 0 21)
  invFun x := x.1 ++ x.2.1 ++ x.2.2
  left_inv := formatC_fields
  right_inv x := by simp

/-- Format V: primary, format, ignored bits, vector op. -/
def fieldsV : Word ≃ BitVec 6 × BitVec 5 × BitVec 15 × BitVec 6 where
  toFun w := (primary w, copFmt w, w.extractLsb' 6 15, cop2VecOp w)
  invFun x := x.1 ++ x.2.1 ++ x.2.2.1 ++ x.2.2.2
  left_inv := formatV_fields
  right_inv x := by simp

section Counting
variable {P : Word → Bool}

theorem card_univ_bitVec (n : Nat) : (Finset.univ : Finset (BitVec n)).card = 2 ^ n := by
  rw [Finset.card_univ, ← FinEnum.card_eq_fintypeCard, FinEnum.card_bitVec]

/-- The words with a property are as many as the values of their fields. -/
theorem countWords_eq_card {α : Type} (e : Word ≃ α) (s : Finset α) (h : ∀ w, P w = true ↔ e w ∈ s) :
    countWords P = s.card :=
  Finset.card_equiv e fun w => by simp [h]

theorem countWords_of_primary (s : Finset (BitVec 6)) (h : ∀ w, P w = true ↔ primary w ∈ s) :
    countWords P = s.card * 2 ^ 26 := by
  rw [countWords_eq_card fieldsP (s ×ˢ Finset.univ) fun w => by simp [h, fieldsP]]
  simp only [Finset.card_product, card_univ_bitVec]

theorem countWords_of_funct (s : Finset (BitVec 6))
    (h : ∀ w, P w = true ↔ primary w = 0b000000#6 ∧ funct w ∈ s) : countWords P = s.card * 2 ^ 20 := by
  rw [countWords_eq_card fieldsS ({0b000000#6} ×ˢ Finset.univ ×ˢ s) fun w => by
    simp [h, fieldsS, -Finset.singleton_product]]
  simp only [Finset.card_product, Finset.card_singleton, card_univ_bitVec]
  ring

theorem countWords_of_regimmRt (s : Finset (BitVec 5))
    (h : ∀ w, P w = true ↔ primary w = 0b000001#6 ∧ regimmRt w ∈ s) : countWords P = s.card * 2 ^ 21 := by
  rw [countWords_eq_card fieldsR ({0b000001#6} ×ˢ Finset.univ ×ˢ s ×ˢ Finset.univ) fun w => by
    simp [h, fieldsR, -Finset.singleton_product]]
  simp only [Finset.card_product, Finset.card_singleton, card_univ_bitVec]
  ring

theorem countWords_of_copFmt (p : BitVec 6) (s : Finset (BitVec 5))
    (h : ∀ w, P w = true ↔ primary w = p ∧ copFmt w ∈ s) : countWords P = s.card * 2 ^ 21 := by
  rw [countWords_eq_card fieldsC ({p} ×ˢ s ×ˢ Finset.univ) fun w => by simp [h, fieldsC, -Finset.singleton_product]]
  simp only [Finset.card_product, Finset.card_singleton, card_univ_bitVec]
  ring

theorem countWords_of_cop2VecOp (s : Finset (BitVec 6))
    (h : ∀ w, P w = true ↔ primary w = 0b010010#6 ∧ copFmt w = 0b10001#5 ∧ cop2VecOp w ∈ s) :
    countWords P = s.card * 2 ^ 15 := by
  rw [countWords_eq_card fieldsV ({0b010010#6} ×ˢ {0b10001#5} ×ˢ Finset.univ ×ˢ s) fun w => by
    simp [h, fieldsV, -Finset.singleton_product]]
  simp only [Finset.card_product, Finset.card_singleton, card_univ_bitVec]
  ring

end Counting

/-- Settles O31, tag by tag: the values of the key field times the values of the ignored bits. -/
theorem tagWordCounts : Obligations.TagWordCounts := by
  refine ⟨fun t ht => ?_, fun t ht => ?_, fun t ht => ?_, ?_, ?_, ?_, ?_, ?_, ?_⟩
  · rw [countWords_of_primary {standardMaps.primaryCode t} fun w => by
      simp [tag?_decodeWord_iff, hasTag_direct_iff ht], Finset.card_singleton, one_mul]
  · rw [countWords_of_regimmRt {regimmCode t} fun w => by
      simp [tag?_decodeWord_iff, hasTag_regimm_iff ht], Finset.card_singleton, one_mul]
  · rw [countWords_of_funct {standardMaps.functCode t} fun w => by
      simp [tag?_decodeWord_iff, hasTag_special_iff ht], Finset.card_singleton, one_mul]
  · exact countWords_of_copFmt 0b010000#6 {0b00100#5} fun w => by simp [tag?_decodeWord_iff, hasTag_mtc0_iff]
  · exact countWords_of_copFmt 0b010000#6 (Finset.univ.erase 0b00100#5) fun w => by
      simp [tag?_decodeWord_iff, hasTag_mfc0_iff]
  · exact countWords_of_copFmt 0b010001#6 {0b00000#5} fun w => by simp [tag?_decodeWord_iff, hasTag_mfc1_iff]
  · exact countWords_of_copFmt 0b010010#6 {0b00000#5} fun w => by simp [tag?_decodeWord_iff, hasTag_mfc2_iff]
  · exact countWords_of_cop2VecOp {0b100010#6} fun w => by simp [tag?_decodeWord_iff, hasTag_vne_iff]
  · exact countWords_of_primary {0b011111#6, 0b110010#6, 0b011100#6} fun w => by
      simp [tag?_decodeWord_iff, hasTag_unknown_iff]

end Sys2Proof.Machine
end

section
/-! PROOFS. The REGIMM table: the rules of its five mnemonics and of its error (R130 to R136). -/

namespace Sys2Proof.Machine

variable {w : Word} {t : OpCode}

/-! ### The table that fails a word (R71) -/

/-- R71 steps 3 to 7: the primary value that leads to each table; the top-level test itself has none. -/
def tablePrimary? : TableName → Option (BitVec 6)
  | .PRIMARY => none
  | .SPECIAL => some 0b000000#6
  | .REGIMM => some 0b000001#6
  | .COP1 => some 0b010001#6
  | .COP2 | .COP2VEC => some 0b010010#6

/-- A sub-table fails only the words that the top-level test hands to it. -/
theorem primary_of_classifyWith_error {m : CodeMaps} {e : DecodeError} {p : BitVec 6}
    (h : classifyWith m w = .error e) (hp : tablePrimary? e.table = some p) : primary w = p := by
  simp only [classifyWith] at h
  split at h
  · cases h
  split_ifs at h with h1 h0 h16 h17 h18
  · rw [classifyRegimm_error h] at hp; exact h1.trans (Option.some.inj hp)
  · rw [classifySpecial_error h] at hp; exact h0.trans (Option.some.inj hp)
  · exact absurd h (classifyCop0_ne_error w e)
  · rw [classifyCop1_error h] at hp; exact h17.trans (Option.some.inj hp)
  · obtain rfl | rfl := classifyCop2_error h <;> exact h18.trans (Option.some.inj hp)
  · cases h; cases hp

theorem primary_of_errorTable? {table : TableName} {p : BitVec 6} (h : errorTable? (decodeWord w) = some table)
    (hp : tablePrimary? table = some p) : primary w = p := by
  cases hd : decodeWord w with
  | ok i => rw [hd] at h; cases h
  | error e =>
    rw [hd] at h
    cases h
    exact primary_of_classifyWith_error (decodeWord_eq_error_iff.1 hd) hp

/-! ### The words of the table (R130) -/

theorem decode_of_regimm (h : primary w = 0b000001#6) :
    decode w = decodeRegimm (regimmRt w) (w.extractLsb' 21 5) (w.extractLsb' 0 16) := by
  rw [← decode_formatR, ← h, formatR_fields]

/-- The words of a primary and an rt value lie between the one with every ignored bit 0 and the one with every ignored
bit 1. -/
theorem formatR_range {p : BitVec 6} {rt : BitVec 5} (hp : primary w = p) (hr : regimmRt w = rt) :
    p ++ 0#5 ++ rt ++ 0#16 ≤ w ∧ w ≤ p ++ BitVec.allOnes 5 ++ rt ++ BitVec.allOnes 16 := by
  rw [← formatR_fields w, hp, hr]
  simp only [BitVec.le_def, toNat_append_eq_add, BitVec.toNat_allOnes, BitVec.toNat_ofNat]
  omega

/-! ### The rules of the mnemonics (R131 to R135) -/

/-- The constructor of each mnemonic is its rt value's, and gives its tag whatever the ignored bits are. -/
theorem exec_decodeRegimm_regimm (ht : t ∈ OpCode.regimm) (hi : BitVec 5) (lo : BitVec 16) (s : State) :
    exec (decodeRegimm (regimmCode t) hi lo) s = s.succeed t := by
  cases t with
  | BGEZL | BGEZAL | BLTZ | BLTZAL | TGEI => rfl
  | _ => exact absurd ht (by decide)

/-- R130: the rule of a REGIMM mnemonic, for its rt value and the constructor the decoder has for that value. -/
theorem regimmRule (ht : t ∈ OpCode.regimm) :
    RegimmRule t (regimmCode t) (decodeRegimm (regimmCode t)) (0b000001#6 ++ 0#5 ++ regimmCode t ++ 0#16)
      (0b000001#6 ++ BitVec.allOnes 5 ++ regimmCode t ++ BitVec.allOnes 16) :=
  ⟨fun _ hp hr => hr ▸ decode_of_regimm hp, fun _ => decodeWord_eq_ok_iff.trans (hasTag_regimm_iff ht),
    fun _ => formatR_range,
    ⟨primary_formatR _ _ _ _, regimmRt_formatR _ _ _ _, primary_formatR _ _ _ _, regimmRt_formatR _ _ _ _⟩,
    exec_decodeRegimm_regimm ht⟩

/-! ### The error (R136) -/

/-- The 27 values the rule lists are those no mnemonic has. -/
theorem mem_regimmErrors_iff :
    ∀ rt : BitVec 5, rt.toNat ∈ regimmErrors ↔ ∀ t ∈ OpCode.regimm, rt ≠ regimmCode t := by decide

theorem decode_of_regimmErrors (hp : primary w = 0b000001#6) (hr : (regimmRt w).toNat ∈ regimmErrors) :
    decode w = .unknownRegimm (regimmRt w) (w.extractLsb' 21 5) (w.extractLsb' 0 16) :=
  (decode_of_regimm hp).trans (decodeRegimm_error _ _ (List.contains_iff_mem.2 hr))

theorem decodeWord_of_regimmErrors (hp : primary w = 0b000001#6) (hr : (regimmRt w).toNat ∈ regimmErrors) :
    decodeWord w = .error ⟨.REGIMM, (regimmRt w).toNat, w⟩ := by
  rw [← answer_decode, decode_of_regimmErrors hp hr]; rfl

/-- A word of the table whose rt value the rule does not list has a mnemonic's value, and so a tag. -/
theorem mem_regimmErrors_of_errorTable? (h : errorTable? (decodeWord w) = some .REGIMM) :
    (regimmRt w).toNat ∈ regimmErrors := by
  rw [mem_regimmErrors_iff]
  intro t ht hr
  have hok : decodeWord w = .ok ⟨t, w⟩ :=
    decodeWord_eq_ok_iff.2 ((hasTag_regimm_iff ht).2 ⟨primary_of_errorTable? h rfl, hr⟩)
  rw [hok] at h
  cases h

/-- Settles O19, rule by rule: each is `regimmRule`, evaluated; the neighbouring values are among the 27 of R136. -/
theorem regimmTagRules : Obligations.RegimmTagRules := by
  have hlisted : ∀ r ∈ [1, 9, 10, 11, 12, 14], r ∈ regimmErrors := by decide
  refine ⟨?_, ?_, ?_, ?_, ?_, fun r hr w hp hrt => hrt ▸ decodeWord_of_regimmErrors hp (hrt ▸ hlisted r hr)⟩ <;>
    exact regimmRule (by decide)

/-- Settles O20, from the decoder's error arm one way and from the mnemonics' words the other. -/
theorem regimmErrorRule : Obligations.RegimmErrorRule :=
  ⟨fun w hp hr => ⟨decode_of_regimmErrors hp hr, toNat_regimmRt w ▸ decodeWord_of_regimmErrors hp hr⟩,
    fun _ h => ⟨primary_of_errorTable? h rfl, mem_regimmErrors_of_errorTable? h⟩, fun _ _ _ _ => rfl⟩

end Sys2Proof.Machine
end

section
/-! PROOFS. The SPECIAL table: the rules of its 23 mnemonics and of its error (R140 to R164). -/

namespace Sys2Proof.Machine

variable {w : Word} {t : OpCode}

/-! ### The words of the table (R140) -/

theorem decode_of_special (h : primary w = 0b000000#6) : decode w = decodeSpecial (funct w) (w.extractLsb' 6 20) := by
  rw [← decode_formatS, ← h, formatS_fields]

/-- The words with primary 0 and a given funct value are that value plus the ignored bits' value times 64. -/
theorem special_funct_iff (f : BitVec 6) :
    (primary w = 0b000000#6 ∧ funct w = f) ↔ ∃ k < 2 ^ 20, w.toNat = f.toNat + 64 * k := by
  rw [← BitVec.toNat_inj, ← BitVec.toNat_inj, toNat_primary, toNat_funct, BitVec.toNat_ofNat]
  constructor
  · rintro ⟨hp, hf⟩
    exact ⟨w.toNat / 64, by omega, by omega⟩
  · rintro ⟨k, hk, hw⟩
    have hf := f.isLt
    omega

/-! ### The rules of the mnemonics (R141 to R163) -/

/-- The constructor of each mnemonic is its funct value's, and gives its tag whatever the ignored bits are. -/
theorem exec_decodeSpecial_special (ht : t ∈ OpCode.special) (ignored : BitVec 20) (s : State) :
    exec (decodeSpecial (standardMaps.functCode t) ignored) s = s.succeed t := by
  cases t with
  | SLL | OR | AND | ADD | SLT | SLTU | JR | MFLO | ADDU | SUBU | SRLV | SLLV | XOR | SRL | MULTU | MOVCI | DSRA32 | MFHI
  | SRA | SYSCALL | SYNC | DSLL | DSRL32 => rfl
  | _ => exact absurd ht (by decide)

/-- R140: the rule of a SPECIAL mnemonic, for the funct value of R50 and the constructor the decoder has for it. -/
theorem specialRule (ht : t ∈ OpCode.special) :
    SpecialRule t (standardMaps.functCode t) (decodeSpecial (standardMaps.functCode t)) :=
  ⟨fun _ hp hf => hf ▸ decode_of_special hp, fun _ => decodeWord_eq_ok_iff.trans (hasTag_special_iff ht),
    fun _ => special_funct_iff _, exec_decodeSpecial_special ht⟩

/-! ### The error (R164) -/

/-- The 41 values the rule lists are those no mnemonic has. -/
theorem mem_specialErrors_iff : ∀ f : BitVec 6, f.toNat ∈ specialErrors ↔ f ∉ functValues standardMaps := by decide

theorem decode_of_specialErrors (hp : primary w = 0b000000#6) (hf : (funct w).toNat ∈ specialErrors) :
    decode w = .unknownSpecial (funct w) (w.extractLsb' 6 20) :=
  (decode_of_special hp).trans (decodeSpecial_error _ (List.contains_iff_mem.2 hf))

theorem decodeWord_of_specialErrors (hp : primary w = 0b000000#6) (hf : (funct w).toNat ∈ specialErrors) :
    decodeWord w = .error ⟨.SPECIAL, (funct w).toNat, w⟩ :=
  decodeWith_special_unmapped standardMapsAreAdmissible hp (notMem_functValues_iff.1 ((mem_specialErrors_iff _).1 hf))

/-- Of the words with primary 0, SPECIAL fails those whose funct value the rule lists. -/
theorem mem_specialErrors_of_errorTable? (hp : primary w = 0b000000#6)
    (h : errorTable? (decodeWord w) = some .SPECIAL) : (funct w).toNat ∈ specialErrors :=
  (mem_specialErrors_iff _).2 ((errorTable?_special_iff standardMapsAreAdmissible hp).1 h)

/-- The funct values of a list are SPECIAL errors if R164 lists them all. -/
theorem decodeWord_of_subset_specialErrors {fs : List (BitVec 6)} (hfs : ∀ f ∈ fs, f.toNat ∈ specialErrors) :
    ∀ f ∈ fs, ∀ w, primary w = 0b000000#6 → funct w = f → decodeWord w = .error ⟨.SPECIAL, f.toNat, w⟩ := by
  rintro f hf w hp rfl
  exact decodeWord_of_specialErrors hp (hfs _ hf)

/-! The rules of the mnemonics, with their values and constructors as R141 to R163 write them: those of `specialRule`,
evaluated. -/

/-- Settles O21, rule by rule; the neighbouring values are among the 41 of R164. -/
theorem specialRulesSllToSllv : Obligations.SpecialRulesSllToSllv := by
  refine ⟨?_, ?_, ?_, ?_, ?_, ?_, ?_, ?_, ?_, ?_, ?_, ?_, decodeWord_of_subset_specialErrors (by decide)⟩ <;>
    exact specialRule (by decide)

/-- Settles O22, rule by rule; the neighbouring values are among the 41 of R164. -/
theorem specialRulesXorToDsrl : Obligations.SpecialRulesXorToDsrl := by
  refine ⟨?_, ?_, ?_, ?_, ?_, ?_, ?_, ?_, ?_, ?_, ?_, decodeWord_of_subset_specialErrors (by decide)⟩ <;>
    exact specialRule (by decide)

/-- Settles O23, from the decoder's error arm one way and from the mnemonics' values the other. -/
theorem specialErrorRule : Obligations.SpecialErrorRule := by
  refine ⟨fun w hp hf => ⟨decode_of_specialErrors hp hf, toNat_funct w ▸ decodeWord_of_specialErrors hp hf⟩,
    fun w h => ?_, fun _ _ _ => rfl⟩
  have hp : primary w = 0b000000#6 := primary_of_errorTable? h rfl
  exact ⟨hp, mem_specialErrors_of_errorTable? hp h⟩

end Sys2Proof.Machine
end

section
/-! PROOFS. The COP0 table: its two exact entries and the lenient fallback (R170 to R173). -/

namespace Sys2Proof.Machine

variable {w : Word}

/-! ### The words of a format -/

/-- The words of a primary value and a format are those from the one with every ignored bit 0 to the one with every
ignored bit 1. -/
theorem primary_copFmt_iff_range (p : BitVec 6) (fmt : BitVec 5) :
    (primary w = p ∧ copFmt w = fmt) ↔ p ++ fmt ++ 0#21 ≤ w ∧ w ≤ p ++ fmt ++ BitVec.allOnes 21 := by
  simp only [BitVec.le_def, toNat_append_eq_add, BitVec.toNat_allOnes, BitVec.toNat_ofNat, ← BitVec.toNat_inj,
    toNat_primary, toNat_copFmt]
  have hfmt := fmt.isLt
  omega

theorem decode_of_cop0 (h : primary w = 0b010000#6) : decode w = decodeCop0 (copFmt w) (w.extractLsb' 0 21) := by
  rw [← decode_cop0, ← h, formatC_fields]

/-! ### The fallback (R173) -/

theorem decode_of_cop0_fallback (hp : primary w = 0b010000#6) (h0 : copFmt w ≠ 0b00000#5)
    (h4 : copFmt w ≠ 0b00100#5) : decode w = .mfc0Fallback (copFmt w) (w.extractLsb' 0 21) :=
  (decode_of_cop0 hp).trans (decodeCop0_fallback _ (by simp [h0, h4]))

/-- The exact entries' rows are none of the six patterns. -/
theorem ne_exact_of_fallbackRow_mem : ∀ fmt : BitVec 5, fallbackRow fmt ∈ fallbackPatterns →
    fmt ≠ 0b00000#5 ∧ fmt ≠ 0b00100#5 := by decide

theorem primary_fallbackRow : ∀ fmt : BitVec 5, primary (fallbackRow fmt).1 = 0b010000#6 := by decide

/-- The words of the 30 formats without an exact entry are the words of the six patterns: a word matches the row of its
decoding, and no other. -/
theorem cop0_fallback_iff_pattern :
    (primary w = 0b010000#6 ∧ copFmt w ≠ 0b00000#5 ∧ copFmt w ≠ 0b00100#5) ↔
      ∃ r ∈ fallbackPatterns, w &&& r.2 = r.1 := by
  constructor
  · rintro ⟨hp, h0, h4⟩
    have hmatch := rowMatch_decode w
    rw [decode_of_cop0_fallback hp h0 h4] at hmatch
    exact ⟨fallbackRow (copFmt w), fallbackRow_mem_patterns _ (by simp [h0, h4]), hmatch⟩
  · rintro ⟨r, hr, hmatch⟩
    obtain ⟨fmt, hwf, rfl⟩ := exists_fallbackRow hr
    have hrow : fallbackRow fmt = rowOf (decode w) := rowOf_eq_of_match (i := .mfc0Fallback fmt 0#21) hwf hmatch
    have hp : primary w = 0b010000#6 := by rw [← primary_rowOf_decode, ← hrow, primary_fallbackRow]
    rw [hrow, rowOf_of_cop0 hp] at hr
    exact ⟨hp, ne_exact_of_fallbackRow_mem _ hr⟩

/-- Settles O24, format by format: the decoder's arm, the words of the tag, and the rows of the fallback. -/
theorem copZeroRules : Obligations.CopZeroRules := by
  have hmtc0 (w : Word) : decodeWord w = .ok ⟨.MTC0, w⟩ ↔ primary w = 0b010000#6 ∧ copFmt w = 0b00100#5 :=
    decodeWord_eq_ok_iff.trans hasTag_mtc0_iff
  have hmfc0 {w : Word} (hp : primary w = 0b010000#6) (h4 : copFmt w ≠ 0b00100#5) :
      decodeWord w = .ok ⟨.MFC0, w⟩ := decodeWord_eq_ok_iff.2 (hasTag_mfc0_iff.2 ⟨hp, h4⟩)
  refine ⟨fun w hp h0 => ⟨?_, hmfc0 hp (h0.trans_ne (by decide))⟩, fun w => primary_copFmt_iff_range _ _,
    fun w hp h4 => ?_, fun w => (hmtc0 w).trans (primary_copFmt_iff_range _ _), hmtc0,
    fun w hp h0 h4 => ⟨decode_of_cop0_fallback hp h0 h4, hmfc0 hp h4⟩, fun w => ?_,
    fun _ _ => rfl, fun _ _ => rfl, fun _ _ _ => rfl⟩
  · rw [decode_of_cop0 hp, h0]; rfl
  · rw [decode_of_cop0 hp, h4]; rfl
  · rw [cop0_fallback_iff_pattern]
    simp only [fallbackPatterns, List.mem_cons, List.not_mem_nil, or_false, exists_eq_or_imp, exists_eq_left]

end Sys2Proof.Machine
end

section
/-! PROOFS. The COP1 table: its single entry MFC1 and its error (R176 to R178). -/

namespace Sys2Proof.Machine

variable {w : Word}

/-! ### The words of the table (R176) -/

theorem decode_of_cop1 (h : primary w = 0b010001#6) : decode w = decodeCop1 (copFmt w) (w.extractLsb' 0 21) := by
  rw [← decode_cop1, ← h, formatC_fields]

/-! ### The error (R178) -/

theorem decode_of_cop1_error (hp : primary w = 0b010001#6) (h0 : copFmt w ≠ 0b00000#5) :
    decode w = .unknownCop1 (copFmt w) (w.extractLsb' 0 21) :=
  (decode_of_cop1 hp).trans (decodeCop1_error _ (by simp [h0]))

theorem decodeWord_of_cop1_error (hp : primary w = 0b010001#6) (h0 : copFmt w ≠ 0b00000#5) :
    decodeWord w = .error ⟨.COP1, (copFmt w).toNat, w⟩ := by
  rw [← answer_decode, decode_of_cop1_error hp h0]; rfl

/-- COP1 fails every word of its primary value but those of MFC1; unlike COP0, it has no fallback. -/
theorem errorTable?_cop1_iff :
    errorTable? (decodeWord w) = some .COP1 ↔ primary w = 0b010001#6 ∧ copFmt w ≠ 0b00000#5 := by
  constructor
  · intro h
    have hp : primary w = 0b010001#6 := primary_of_errorTable? h rfl
    refine ⟨hp, fun h0 => ?_⟩
    rw [decodeWord_eq_ok_iff.2 (hasTag_mfc1_iff.2 ⟨hp, h0⟩)] at h
    cases h
  · rintro ⟨hp, h0⟩
    rw [decodeWord_of_cop1_error hp h0]; rfl

/-- A mask of the upper `n` bits compares those bits: the word's value above the `k` ignored bits. -/
theorem and_prefixMask_eq_iff {n k : Nat} {w : BitVec (n + k)} {q : BitVec n} :
    w &&& (BitVec.allOnes n ++ 0#k) = q ++ 0#k ↔ w.toNat / 2 ^ k = q.toNat := by
  have hlt : w.toNat / 2 ^ k < 2 ^ n := Nat.div_lt_of_lt_mul (Nat.pow_add' 2 n k ▸ w.isLt)
  have hand : w &&& (BitVec.allOnes n ++ 0#k) = w.extractLsb' k n ++ 0#k := by
    conv_lhs => rw [← BitVec.extractLsb'_append_extractLsb' (x := w)]
    rw [BitVec.and_append, BitVec.and_allOnes, BitVec.and_zero]
  rw [hand, BitVec.append_left_inj, ← BitVec.toNat_inj, BitVec.extractLsb'_toNat, Nat.shiftRight_eq_div_pow,
    Nat.mod_eq_of_lt hlt]

/-- The words of the 31 formats of the error are the words of the five patterns: each fixes the leading bits of the
format. -/
theorem cop1_error_iff_pattern :
    (primary w = 0b010001#6 ∧ copFmt w ≠ 0b00000#5) ↔
      w &&& 0xFFE00000#32 = 0x44200000#32 ∨ w &&& 0xFFC00000#32 = 0x44400000#32 ∨
      w &&& 0xFF800000#32 = 0x44800000#32 ∨ w &&& 0xFF000000#32 = 0x45000000#32 ∨
      w &&& 0xFE000000#32 = 0x46000000#32 := by
  have h11 : w &&& 0xFFE00000#32 = 0x44200000#32 ↔ w.toNat / 2 ^ 21 = 0b01000100001 :=
    and_prefixMask_eq_iff (k := 21) (q := 0b01000100001#11)
  have h10 : w &&& 0xFFC00000#32 = 0x44400000#32 ↔ w.toNat / 2 ^ 22 = 0b0100010001 :=
    and_prefixMask_eq_iff (k := 22) (q := 0b0100010001#10)
  have h9 : w &&& 0xFF800000#32 = 0x44800000#32 ↔ w.toNat / 2 ^ 23 = 0b010001001 :=
    and_prefixMask_eq_iff (k := 23) (q := 0b010001001#9)
  have h8 : w &&& 0xFF000000#32 = 0x45000000#32 ↔ w.toNat / 2 ^ 24 = 0b01000101 :=
    and_prefixMask_eq_iff (k := 24) (q := 0b01000101#8)
  have h7 : w &&& 0xFE000000#32 = 0x46000000#32 ↔ w.toNat / 2 ^ 25 = 0b0100011 :=
    and_prefixMask_eq_iff (k := 25) (q := 0b0100011#7)
  rw [h11, h10, h9, h8, h7, ne_eq, ← BitVec.toNat_inj, ← BitVec.toNat_inj, toNat_primary, toNat_copFmt,
    BitVec.toNat_ofNat, BitVec.toNat_ofNat]
  omega

/-- Settles O25, format by format: the decoder's arm, the words of the tag and of the error, and the five patterns. -/
theorem copOneRules : Obligations.CopOneRules := by
  have hmfc1 (w : Word) : decodeWord w = .ok ⟨.MFC1, w⟩ ↔ primary w = 0b010001#6 ∧ copFmt w = 0b00000#5 :=
    decodeWord_eq_ok_iff.trans hasTag_mfc1_iff
  refine ⟨fun w hp h0 => ?_, hmfc1, fun w => (hmfc1 w).trans (primary_copFmt_iff_range _ _),
    fun w hp h0 => ⟨decode_of_cop1_error hp h0, toNat_copFmt w ▸ decodeWord_of_cop1_error hp h0⟩,
    fun _ => errorTable?_cop1_iff, fun _ => cop1_error_iff_pattern, fun _ _ => rfl, fun _ _ _ => rfl⟩
  rw [decode_of_cop1 hp, h0]; rfl

end Sys2Proof.Machine
end

section
/-! PROOFS. The COP2 table and the vector table it leads to: MFC2, VNE and the two errors (R181 to R185). -/

namespace Sys2Proof.Machine

variable {w : Word}

/-! ### The words of the two tables (R180, R182) -/

theorem decode_of_cop2 (h : primary w = 0b010010#6) : decode w = decodeCop2 (copFmt w) w := by
  have hfields := decode_cop2 (copFmt w) (w.extractLsb' 0 21)
  rwa [← h, formatC_fields] at hfields

theorem decode_of_cop2Vec (hp : primary w = 0b010010#6) (hf : copFmt w = 0b10001#5) :
    decode w = decodeCop2Vec (cop2VecOp w) (w.extractLsb' 6 15) := by
  rw [← decode_formatV, ← hp, ← hf, formatV_fields]

/-- The words of a vector op are that op above the table's first word, plus the ignored bits' value times 64. -/
theorem cop2Vec_op_iff (op : BitVec 6) :
    (primary w = 0b010010#6 ∧ copFmt w = 0b10001#5 ∧ cop2VecOp w = op) ↔
      ∃ k < 2 ^ 15, w.toNat = 0x4A200000 + op.toNat + 64 * k := by
  rw [cop2VecOp_eq_funct, ← BitVec.toNat_inj, ← BitVec.toNat_inj, ← BitVec.toNat_inj, toNat_primary, toNat_copFmt,
    toNat_funct, BitVec.toNat_ofNat, BitVec.toNat_ofNat]
  constructor
  · rintro ⟨hp, hf, hv⟩
    exact ⟨w.toNat / 64 % 2 ^ 15, by omega, by omega⟩
  · rintro ⟨k, hk, hw⟩
    have hop := op.isLt
    omega

/-! ### The errors (R184, R185) -/

theorem decode_of_cop2Vec_error (hp : primary w = 0b010010#6) (hf : copFmt w = 0b10001#5)
    (hv : cop2VecOp w ≠ 0b100010#6) : decode w = .unknownCop2Vec (cop2VecOp w) (w.extractLsb' 6 15) :=
  (decode_of_cop2Vec hp hf).trans (decodeCop2Vec_error _ (by simp [hv]))

theorem decode_of_cop2_error (hp : primary w = 0b010010#6) (h0 : copFmt w ≠ 0b00000#5)
    (h17 : copFmt w ≠ 0b10001#5) : decode w = .unknownCop2 (copFmt w) (w.extractLsb' 0 21) :=
  (decode_of_cop2 hp).trans (decodeCop2_error _ (by simp [h0, h17]))

theorem decodeWord_of_cop2Vec_error (hp : primary w = 0b010010#6) (hf : copFmt w = 0b10001#5)
    (hv : cop2VecOp w ≠ 0b100010#6) : decodeWord w = .error ⟨.COP2VEC, (cop2VecOp w).toNat, w⟩ := by
  rw [← answer_decode, decode_of_cop2Vec_error hp hf hv]; rfl

theorem decodeWord_of_cop2_error (hp : primary w = 0b010010#6) (h0 : copFmt w ≠ 0b00000#5)
    (h17 : copFmt w ≠ 0b10001#5) : decodeWord w = .error ⟨.COP2, (copFmt w).toNat, w⟩ := by
  rw [← answer_decode, decode_of_cop2_error hp h0 h17]; rfl

/-- The table that fails a word under COP2, by its format and, in the vector table, its vector op. -/
theorem errorTable?_of_cop2 (hp : primary w = 0b010010#6) :
    errorTable? (decodeWord w) =
      if copFmt w = 0b00000#5 then none
      else if copFmt w = 0b10001#5 then if cop2VecOp w = 0b100010#6 then none else some .COP2VEC
      else some .COP2 := by
  split_ifs with h0 h17 hv
  · rw [decodeWord_eq_ok_iff.2 (hasTag_mfc2_iff.2 ⟨hp, h0⟩)]; rfl
  · rw [decodeWord_eq_ok_iff.2 (hasTag_vne_iff.2 ⟨hp, h17, hv⟩)]; rfl
  · rw [decodeWord_of_cop2Vec_error hp h17 hv]; rfl
  · rw [decodeWord_of_cop2_error hp h0 h17]; rfl

theorem errorTable?_cop2Vec_iff : errorTable? (decodeWord w) = some .COP2VEC ↔
    primary w = 0b010010#6 ∧ copFmt w = 0b10001#5 ∧ cop2VecOp w ≠ 0b100010#6 := by
  constructor
  · intro h
    have hp : primary w = 0b010010#6 := primary_of_errorTable? h rfl
    rw [errorTable?_of_cop2 hp] at h
    split_ifs at h with h0 h17 hv
    · exact ⟨hp, h17, hv⟩
    · cases h
  · rintro ⟨hp, h17, hv⟩
    rw [decodeWord_of_cop2Vec_error hp h17 hv]; rfl

theorem errorTable?_cop2_iff : errorTable? (decodeWord w) = some .COP2 ↔
    primary w = 0b010010#6 ∧ copFmt w ≠ 0b00000#5 ∧ copFmt w ≠ 0b10001#5 := by
  constructor
  · intro h
    have hp : primary w = 0b010010#6 := primary_of_errorTable? h rfl
    rw [errorTable?_of_cop2 hp] at h
    split_ifs at h with h0 h17 hv
    · cases h
    · exact ⟨hp, h0, h17⟩
  · rintro ⟨hp, h0, h17⟩
    rw [decodeWord_of_cop2_error hp h0 h17]; rfl

/-- Settles O26, format by format: the decoder's arm, the words of the two tags, and the table of each failure; under
SPECIAL, VNE's value 0b100010 is one of the 41 of R164. -/
theorem copTwoRules : Obligations.CopTwoRules := by
  have hmfc2 (w : Word) : decodeWord w = .ok ⟨.MFC2, w⟩ ↔ primary w = 0b010010#6 ∧ copFmt w = 0b00000#5 :=
    decodeWord_eq_ok_iff.trans hasTag_mfc2_iff
  have hvne (w : Word) : decodeWord w = .ok ⟨.VNE, w⟩ ↔
      primary w = 0b010010#6 ∧ copFmt w = 0b10001#5 ∧ cop2VecOp w = 0b100010#6 :=
    decodeWord_eq_ok_iff.trans hasTag_vne_iff
  have hspecial : ∀ f ∈ [0b100010#6], f.toNat ∈ specialErrors := by decide
  refine ⟨fun w hp h0 => ?_, hmfc2, fun w => (hmfc2 w).trans (primary_copFmt_iff_range _ _),
    fun w => primary_copFmt_iff_range _ _, fun w hp h17 hv => ?_, hvne, fun w => (hvne w).trans (cop2Vec_op_iff _),
    fun w hp h17 hv =>
      ⟨decode_of_cop2Vec_error hp h17 hv, toNat_funct w ▸ decodeWord_of_cop2Vec_error hp h17 hv⟩,
    fun _ => errorTable?_cop2Vec_iff,
    fun w hp h0 h17 => ⟨decode_of_cop2_error hp h0 h17, toNat_copFmt w ▸ decodeWord_of_cop2_error hp h0 h17⟩,
    fun _ => errorTable?_cop2_iff, decodeWord_of_subset_specialErrors hspecial _ (by simp),
    fun _ _ => rfl, fun _ _ => rfl, fun _ _ _ => rfl, fun _ _ _ => rfl⟩
  · rw [decode_of_cop2 hp, h0]; rfl
  · rw [decode_of_cop2Vec hp h17, hv]; rfl

end Sys2Proof.Machine
end

section
/-! PROOFS. The words that no table has an entry for: UNKNOWN (R190), the PRIMARY error (R191), the payload of every
failure (R192, R193), and how many words fail (R194). -/

namespace Sys2Proof.Machine

variable {w : Word}

/-! ### The primary values no sub-table decides (R190, R191) -/

theorem decode_of_not_delegated (h : primary w ∉ delegatedPrimaries) :
    decode w = decodePrimary (primary w) (w.extractLsb' 0 26) := by
  rw [← decode_formatP _ h, formatP_fields]

theorem unknownPrimaries_contains_iff : ∀ p : BitVec 6,
    unknownPrimaries.contains p.toNat = true ↔ p = 0b011111#6 ∨ p = 0b110010#6 ∨ p = 0b011100#6 := by decide

theorem decode_of_unknown (h : primary w = 0b011111#6 ∨ primary w = 0b110010#6 ∨ primary w = 0b011100#6) :
    decode w = .unknown (primary w) (w.extractLsb' 0 26) := by
  have hlisted := (unknownPrimaries_contains_iff _).2 h
  rw [decode_of_not_delegated (unknown_not_delegated _ hlisted), decodePrimary_unknown _ hlisted]

/-- Settles O17, from the decoder's arms and from the words of the tag. -/
theorem unknownTagRule : Obligations.UnknownTagRule :=
  ⟨fun _ => decode_of_unknown, fun _ => decodeWord_eq_ok_iff.trans hasTag_unknown_iff, fun _ _ _ => rfl⟩

/-- The 26 values the rule lists are those of no direct mnemonic, no sub-table and not of UNKNOWN. -/
theorem mem_primaryErrors_iff : ∀ p : BitVec 6, p.toNat ∈ primaryErrors ↔ p ∉ primaryValues standardMaps := by decide

theorem decode_of_primaryErrors (h : (primary w).toNat ∈ primaryErrors) :
    decode w = .unknownPrimary (primary w) (w.extractLsb' 0 26) := by
  have hlisted := List.contains_iff_mem.2 h
  rw [decode_of_not_delegated (unknownPrimary_not_delegated _ hlisted), decodePrimary_error _ hlisted]

theorem decodeWord_of_primaryErrors (h : (primary w).toNat ∈ primaryErrors) :
    decodeWord w = .error ⟨.PRIMARY, (primary w).toNat, w⟩ := by
  rw [← answer_decode, decode_of_primaryErrors h]; rfl

/-- Settles O18, from the decoder's error arm one way and from the values that have an outcome the other. -/
theorem primaryErrorRule : Obligations.PrimaryErrorRule :=
  ⟨fun _ => decode_of_primaryErrors, fun w h => toNat_primary w ▸ decodeWord_of_primaryErrors h,
    fun _ h => (mem_primaryErrors_iff _).2 (errorTable?_primary_iff.1 h), fun _ _ _ => rfl⟩

/-! ### The payload of a failure (R192, R193) -/

/-- R193: a failure names the innermost table its word leads to, and carries the value looked up there. -/
theorem decodeWord_error_cases {e : DecodeError} (h : decodeWord w = .error e) :
    (e = ⟨.PRIMARY, (primary w).toNat, w⟩ ∧ primary w ∉ CodeMaps.claimed) ∨
    (e = ⟨.SPECIAL, (funct w).toNat, w⟩ ∧ primary w = 0b000000#6) ∨
    (e = ⟨.REGIMM, (regimmRt w).toNat, w⟩ ∧ primary w = 0b000001#6) ∨
    (e = ⟨.COP1, (copFmt w).toNat, w⟩ ∧ primary w = 0b010001#6) ∨
    (e = ⟨.COP2, (copFmt w).toNat, w⟩ ∧ primary w = 0b010010#6 ∧ copFmt w ≠ 0b10001#5) ∨
    (e = ⟨.COP2VEC, (cop2VecOp w).toNat, w⟩ ∧ primary w = 0b010010#6 ∧ copFmt w = 0b10001#5) := by
  have htable : errorTable? (decodeWord w) = some e.table := by rw [h]; rfl
  have hc : classifyWith standardMaps w = .error e := decodeWord_eq_error_iff.1 h
  obtain rfl | rfl | rfl | rfl | rfl | rfl := classifyWith_error hc
  case inl | inr.inl | inr.inr.inl =>
    have hp := primary_of_errorTable? htable rfl
    simp [hp]
  · obtain ⟨hp, -, h17⟩ := errorTable?_cop2_iff.1 htable
    simp [hp, h17]
  · obtain ⟨hp, h17, -⟩ := errorTable?_cop2Vec_iff.1 htable
    simp [hp, h17]
  · exact .inl ⟨rfl, (classifyWith_error_primary hc rfl).2⟩

/-- Settles O29, table by table: the field's value as the rule writes it, and the primary value tells the tables apart. -/
theorem errorPayload : Obligations.ErrorPayload := by
  intro w e h
  obtain ⟨rfl, hp⟩ | ⟨rfl, hp⟩ | ⟨rfl, hp⟩ | ⟨rfl, hp⟩ | ⟨rfl, hp, hf⟩ | ⟨rfl, hp, hf⟩ := decodeWord_error_cases h
  · simp_all [CodeMaps.claimed, toNat_primary]
  · simp [toNat_funct, hp]
  · simp [toNat_regimmRt, hp]
  · simp [toNat_copFmt, hp]
  · simp [toNat_copFmt, hp, hf]
  · simp [cop2VecOp_eq_funct, toNat_funct, hp, hf]

/-! ### How many words fail (R194) -/

theorem errorTable?_special_iff_funct : errorTable? (decodeWord w) = some .SPECIAL ↔
    primary w = 0b000000#6 ∧ funct w ∉ functValues standardMaps := by
  constructor
  · intro h
    have hp : primary w = 0b000000#6 := primary_of_errorTable? h rfl
    exact ⟨hp, (errorTable?_special_iff standardMapsAreAdmissible hp).1 h⟩
  · rintro ⟨hp, hf⟩
    exact (errorTable?_special_iff standardMapsAreAdmissible hp).2 hf

theorem errorTable?_regimm_iff : errorTable? (decodeWord w) = some .REGIMM ↔
    primary w = 0b000001#6 ∧ (regimmRt w).toNat ∈ regimmErrors := by
  refine ⟨fun h => ⟨primary_of_errorTable? h rfl, mem_regimmErrors_of_errorTable? h⟩, fun ⟨hp, hr⟩ => ?_⟩
  rw [decodeWord_of_regimmErrors hp hr]; rfl

/-- R194: how many words fail in each table, the failing values of its field times the values of the ignored bits. -/
def failureCount : TableName → Nat
  | .PRIMARY => 26 * 2 ^ 26
  | .SPECIAL => 41 * 2 ^ 20
  | .REGIMM => 27 * 2 ^ 21
  | .COP1 => 31 * 2 ^ 21
  | .COP2 => 30 * 2 ^ 21
  | .COP2VEC => 63 * 2 ^ 15

theorem countWords_errorTable? (table : TableName) :
    countWords (fun w => errorTable? (decodeWord w) == some table) = failureCount table := by
  cases table <;> simp only [failureCount]
  case PRIMARY =>
    rw [countWords_of_primary (Finset.univ.filter (· ∉ primaryValues standardMaps)) fun w => by
      simp [decodeWord, errorTable?_primary_iff], card_filter_notMem, card_primaryValues standardMapsAreAdmissible]
  case SPECIAL =>
    rw [countWords_of_funct (Finset.univ.filter (· ∉ functValues standardMaps)) fun w => by
      simp [errorTable?_special_iff_funct], card_filter_notMem, card_functValues standardMapsAreAdmissible]
  case REGIMM =>
    exact countWords_of_regimmRt (Finset.univ.filter (·.toNat ∈ regimmErrors)) fun w => by
      simp [errorTable?_regimm_iff]
  case COP1 =>
    exact countWords_of_copFmt 0b010001#6 (Finset.univ.erase 0b00000#5) fun w => by simp [errorTable?_cop1_iff]
  case COP2 =>
    exact countWords_of_copFmt 0b010010#6 ((Finset.univ.erase 0b10001#5).erase 0b00000#5) fun w => by
      simp [errorTable?_cop2_iff]
  case COP2VEC =>
    exact countWords_of_cop2VecOp (Finset.univ.erase 0b100010#6) fun w => by simp [errorTable?_cop2Vec_iff]

/-- The words that have a value are those of each value it can be, together. -/
theorem countWords_isSome {α : Type} [DecidableEq α] (f : Word → Option α) (s : Finset α) (hs : ∀ a, a ∈ s) :
    countWords (fun w => (f w).isSome) = ∑ a ∈ s, countWords (fun w => f w == some a) := by
  have hdisj : (s : Set α).PairwiseDisjoint fun a => Finset.univ.filter fun w => (f w == some a) = true := by
    intro a _ b _ hab
    exact Finset.disjoint_filter.2 fun w _ ha hb =>
      hab (Option.some.inj ((beq_iff_eq.1 ha).symm.trans (beq_iff_eq.1 hb)))
  simp only [countWords]
  rw [← Finset.card_biUnion hdisj]
  congr 1
  ext w
  simp [Option.isSome_iff_exists, hs]

/-- A property and its negation share out the 2^32 words. -/
theorem countWords_not {p : Word → Bool} {n m : Nat} (hp : countWords p = n) (hsum : n + m = 2 ^ 32) :
    countWords (fun w => !p w) = m := by
  have htotal := Finset.card_filter_add_card_filter_not (s := (Finset.univ : Finset Word)) (fun w => p w = true)
  rw [card_univ_bitVec, ← hsum] at htotal
  simp only [countWords, Bool.not_eq_true'] at hp ⊢
  simp only [Bool.not_eq_true] at htotal
  omega

/-- R16: the tables in which a lookup can fail. -/
def failingTables : Finset TableName := {.PRIMARY, .SPECIAL, .REGIMM, .COP1, .COP2, .COP2VEC}

theorem mem_failingTables (table : TableName) : table ∈ failingTables := by
  cases table <;> decide

/-- R194: 1974435840 words fail. -/
theorem countWords_fail : countWords (fun w => (errorTable? (decodeWord w)).isSome) = 1974435840 := by
  rw [countWords_isSome _ failingTables mem_failingTables]
  simp [countWords_errorTable?, failingTables, failureCount]

/-- R17: a result is a success exactly when it is not a failure. -/
theorem isSome_tag? (r : DecodeResult) : (tag? r).isSome = !(errorTable? r).isSome := by
  cases r <;> rfl

/-- R194: 2320531456 words do not fail. -/
theorem countWords_ok : countWords (fun w => (tag? (decodeWord w)).isSome) = 2320531456 := by
  simp only [isSome_tag?]
  exact countWords_not countWords_fail (by norm_num)

/-- Settles O30, table by table, then all tables together, then the words that are left. -/
theorem errorWordCounts : Obligations.ErrorWordCounts :=
  ⟨countWords_errorTable? .PRIMARY, countWords_errorTable? .SPECIAL, countWords_errorTable? .REGIMM,
    countWords_errorTable? .COP1, countWords_errorTable? .COP2, countWords_errorTable? .COP2VEC, countWords_fail,
    countWords_ok⟩

end Sys2Proof.Machine
end

section
/-! PROOFS. The block's exceptional outcome: every result is typed (R211), and a failure is a returned value that
changes and leaves nothing (R205, R206); and the few fixed values, the state at reset and words of each family. -/

namespace Sys2Proof.Machine

/-- Settles O13: the Err value is the whole of the exceptional outcome. -/
theorem failureChangesOnlyTheResult : Obligations.FailureChangesOnlyTheResult := fun _ _ _ => rfl

/-- R72, R211: a word's result is a tag or an error of a value within its field, and carries the word. -/
theorem decodeWord_typed (w : Word) : (∃ tag ∈ OpCode.all, decodeWord w = .ok ⟨tag, w⟩) ∨
    ∃ table v, decodeWord w = .error ⟨table, v, w⟩ ∧ v < 64 ∧
      (table = .REGIMM ∨ table = .COP1 ∨ table = .COP2 → v < 32) := by
  obtain ⟨tag, hmem, h⟩ | ⟨table, v, h, hbound⟩ := (testableProperties standardMapsAreAdmissible).total w
  · exact .inl ⟨tag, hmem, decodeWith_of_ok h⟩
  · exact .inr ⟨table, v, decodeWith_of_error h, hbound⟩

/-- Settles O10: an evaluation answers the word's classification, and every instruction answers a next state. -/
theorem everyWordHasATypedResult : Obligations.EveryWordHasATypedResult :=
  ⟨fun w s => ⟨_, evaluate_eq w s, decodeWord_typed w⟩, fun i s => ⟨_, exec_eq i s⟩⟩

/-- Settles O12: an evaluation writes the two ports only, and each of them from its own word. -/
theorem failureLeavesNoTrace : Obligations.FailureLeavesNoTrace := fun w₁ w₂ s =>
  ⟨_, _, evaluate_eq w₁ s, evaluate_eq w₂ _, evaluate_eq w₂ s⟩

/-- Settles O1: the machine at reset is the machine with the empty image loaded. -/
theorem resetMeetsInvariant : Obligations.ResetMeetsInvariant := loadMeetsInvariant []

/-- Settles O5: each word is evaluated, one family after the other. -/
theorem specWordsDecode : Obligations.SpecWordsDecode :=
  ⟨rfl, rfl, rfl, rfl, rfl, rfl, rfl, rfl, rfl, rfl, rfl, rfl, rfl, rfl, rfl, rfl, rfl⟩

end Sys2Proof.Machine
end

section
/-! PROOFS. The two errors of the environment: exactly when a step stops (R208, R209), and that nothing else does (R210,
R211). -/

namespace Sys2Proof.Machine

variable {s : State}

/-! ### What the invariant says of each stage -/

/-- A whole word of the boot block is left as long as the bootcode stage lasts (R25). -/
theorem State.Inv.wordLeft (hinv : s.Inv) (hs : s.stage = .bootcode) : s.pos + 4 ≤ Config.bootBlockBytes := by
  obtain ⟨hpos, hn, -⟩ := (stageOk_of_bootcode hs).1 hinv.stage_ok
  have hpos' : s.pos = 0x40 + 4 * s.results.length := hpos
  have hn' : s.results.length < 1008 := hn
  show s.pos + 4 ≤ 0x1000
  omega

/-- R27: a buffer shorter than a boot block yields no per-word results. -/
theorem State.Inv.results_of_short (hinv : s.Inv) (hlen : s.imageLen < Config.bootBlockBytes) : s.results = [] := by
  obtain hs | hs | hs := stage_cases s
  · exact ((stageOk_of_header hs).1 hinv.stage_ok).2.2
  · obtain ⟨-, -, -, -, hres⟩ := (stageOk_of_bootcode hs).1 hinv.stage_ok
    exact hres.resolve_right (Nat.not_le.2 hlen)
  · obtain ⟨-, -, -, hlong⟩ := (stageOk_of_complete hs).1 hinv.stage_ok
    exact absurd hlong (Nat.not_le.2 hlen)

/-! ### When a step stops -/

/-- All a step can do if it stops (R208, R209): the header's bytes are missing, or the name is no text, or the
bootcode's bytes are missing. -/
theorem step_fault_iff (f : Fault) : step s = .fault f ↔
    (s.stage = .header ∧ s.imageLen < 0x40 ∧ f = .insufficientData .header) ∨
    (s.stage = .header ∧ 0x40 ≤ s.imageLen ∧ Config.textValid (s.image.bytes 0x20 20) = false ∧
      f = .invalidText (s.image.bytes 0x20 20)) ∨
    (s.stage = .bootcode ∧ ¬(Config.bootBlockBytes ≤ s.imageLen ∧ s.pos + 4 ≤ Config.bootBlockBytes) ∧
      f = .insufficientData .bootcode) := by
  obtain hs | hs | hs := stage_cases s
  · rw [step_of_header hs]
    by_cases hlen : s.imageLen < 0x40
    · simp [readHeader_of_short hlen, hs, hlen, Nat.not_le.2 hlen, eq_comm (a := f)]
    · rw [readHeader_of_long (Nat.not_lt.1 hlen)]
      cases hname : Config.textValid (s.image.bytes 0x20 20) <;> 
        simp [headerOf, hs, hname, Nat.not_lt.1 hlen, eq_comm (a := f)]
  · rw [step_of_bootcode hs]
    split
    next h => simp [hs, h]
    next h => simp [hs, h, eq_comm (a := f)]
  · simp [step_of_complete hs, hs]

/-- R211: no instruction stops the machine, since each answers a next state. -/
theorem exec_ne_fault (i : Instr) (s : State) (f : Fault) : exec i s ≠ .fault f := by
  simp [exec_eq]

/-- Settles O40, from the only ways a step can stop; the invariant leaves a whole word to the bootcode stage. -/
theorem insufficientDataExactly : Obligations.InsufficientDataExactly := by
  refine ⟨fun s => ?_, fun s hinv => ?_, fun s hinv => hinv.results_of_short, exec_ne_fault⟩
  · simp [step_fault_iff]
  · rw [step_fault_iff]
    constructor
    · rintro (⟨-, -, h⟩ | ⟨-, -, -, h⟩ | ⟨hs, hshort, -⟩)
      · cases h
      · cases h
      · exact ⟨hs, Nat.not_le.1 fun hlen => hshort ⟨hlen, hinv.wordLeft hs⟩⟩
    · rintro ⟨hs, hlen⟩
      exact .inr (.inr ⟨hs, fun h => Nat.not_le.2 hlen h.1, rfl⟩)

/-- Settles O41, from the only ways a step can stop. -/
theorem invalidTextExactly : Obligations.InvalidTextExactly := by
  refine ⟨fun s n => ?_, fun i s n => exec_ne_fault i s _⟩
  rw [step_fault_iff]
  constructor
  · rintro (⟨-, -, h⟩ | ⟨hs, hlen, hname, h⟩ | ⟨-, -, h⟩)
    · cases h
    · cases h; exact ⟨hs, hlen, rfl, hname⟩
    · cases h
  · rintro ⟨hs, hlen, rfl, hname⟩
    exact .inr (.inl ⟨hs, hlen, hname, rfl⟩)

/-! ### The report of failures -/

/-- R25, R28: the result of word number `i` is the classification of the word at its offset. -/
theorem State.Inv.getElem?_results (hinv : s.Inv) {i : Nat} (hi : i < s.results.length) :
    s.results[i]? = some (decodeWord (s.image.wordAt (wordOffset i))) := by
  rw [hinv.results_eq]
  simp [expectedResults, hi]

/-- R201: entry number `i` of the report is result number `i` with the offset of its word. -/
theorem State.getElem?_report (s : State) (i : Nat) : s.report[i]? = s.results[i]?.map (wordOffset i, ·) := by
  by_cases hi : i < s.results.length <;> simp [State.report, hi]

theorem State.mem_report {off : Nat} {r : DecodeResult} :
    (off, r) ∈ s.report ↔ ∃ i, off = wordOffset i ∧ s.results[i]? = some r := by
  simp [List.mem_iff_getElem?, State.getElem?_report, and_comm, eq_comm (a := off)]

/-- R32: the report of failures is what of the report failed. -/
theorem State.mem_failures {off : Nat} {e : DecodeError} :
    (off, e) ∈ s.failures ↔ (off, .error e) ∈ s.report := by
  simp only [State.failures, List.mem_filterMap]
  constructor
  · rintro ⟨⟨off', r⟩, hmem, h⟩
    cases r with
    | ok i => cases h
    | error e' => cases h; exact hmem
  · exact fun hmem => ⟨_, hmem, rfl⟩

/-- Settles O45: the report pairs each result with its offset, and each result is its word's classification. -/
theorem failuresAreReportedByOffset : Obligations.FailuresAreReportedByOffset := by
  intro s hinv off e
  rw [State.mem_failures, State.mem_report]
  constructor
  · rintro ⟨i, rfl, h⟩
    have hi : i < s.results.length := (List.getElem?_eq_some_iff.1 h).1
    rw [hinv.getElem?_results hi] at h
    exact ⟨i, hi, rfl, Option.some.inj h⟩
  · rintro ⟨i, hi, rfl, h⟩
    exact ⟨i, rfl, (hinv.getElem?_results hi).trans (congrArg some h)⟩

end Sys2Proof.Machine
end

section
/-! PROOFS. Whole runs: past the header nothing fails (R210, R211), a run that has ended stays as it is (R227), and the
run over an image, too short (R27) or long enough (R25). -/

namespace Sys2Proof.Machine

variable {s t : State}

/-! ### Runs step by step -/

/-- A run that ends in a next state begins with a step that answers one. -/
theorem coreRun_succ_next {M : Host.Core} {s t : M.State} {k : Nat} (h : M.run (k + 1) s = .next t) :
    ∃ u, M.step s = .next u ∧ M.run k u = .next t := by
  rw [coreRun_succ] at h
  split at h
  next u hstep => exact ⟨u, hstep, h⟩
  next => cases h
  next => cases h

theorem run_succ_next {k : Nat} (h : Host.Core.run Sys2Proof.core (k + 1) s = .next t) :
    ∃ u, step s = .next u ∧ Host.Core.run Sys2Proof.core k u = .next t :=
  coreRun_succ_next (M := Sys2Proof.core) h

theorem run_keeps_inv {k : Nat} (hinv : s.Inv) (h : Host.Core.run Sys2Proof.core k s = .next t) : t.Inv := by
  induction k generalizing s with
  | zero => cases h; exact hinv
  | succ k ih =>
    obtain ⟨u, hstep, hrun⟩ := run_succ_next h
    exact ih (stepKeepsInvariant s u hinv hstep) hrun

/-- A run goes on from where a part of it has ended. -/
theorem run_add {k : Nat} (h : Host.Core.run Sys2Proof.core k s = .next t) (j : Nat) :
    Host.Core.run Sys2Proof.core (k + j) s = Host.Core.run Sys2Proof.core j t := by
  induction k generalizing s with
  | zero => cases h; rw [Nat.zero_add]
  | succ k ih =>
    obtain ⟨u, hstep, hrun⟩ := run_succ_next h
    rw [Nat.add_right_comm, run_next hstep, ih hrun]

/-- Settles O49: the stage decides what a step does. -/
theorem completedRunStays : Obligations.CompletedRunStays := fun _ => step_of_complete

theorem run_of_complete (hs : s.stage = .complete) (k : Nat) : Host.Core.run Sys2Proof.core k s = .next s := by
  induction k with
  | zero => exact run_zero s
  | succ k ih => rw [run_next (step_of_complete hs), ih]

/-! ### Past the header -/

/-- Past the header a step over a whole boot block answers a next state, which is past the header too. -/
theorem step_past_header (hinv : s.Inv) (hs : s.stage ≠ .header) (hlen : Config.bootBlockBytes ≤ s.imageLen) :
    ∃ t, step s = .next t ∧ t.stage ≠ .header ∧ Config.bootBlockBytes ≤ t.imageLen := by
  obtain hs' | hs' | hs' := stage_cases s
  · exact absurd hs' hs
  · refine ⟨s.afterWord, step_eq_afterWord hs' hlen (hinv.wordLeft hs'), ?_, hlen⟩
    rw [State.afterWord, State.collect_stage]
    split <;> simp
  · exact ⟨s, step_of_complete hs', hs, hlen⟩

/-- Settles O46, by induction on the number of steps. -/
theorem afterTheHeaderNothingFails : Obligations.AfterTheHeaderNothingFails := by
  intro s hinv hs hlen k
  induction k generalizing s with
  | zero => exact ⟨s, run_zero s⟩
  | succ k ih =>
    obtain ⟨u, hstep, hs', hlen'⟩ := step_past_header hinv hs hlen
    rw [run_next hstep]
    exact ih u (stepKeepsInvariant s u hinv hstep) hs' hlen'

/-! ### The header of an image -/

/-- R21: the bytes of a loaded image are the caller's own. -/
theorem Memory.bytes_ofBytes {bs : List Byte} {off n : Nat} (h : off + n ≤ bs.length) :
    (Memory.ofBytes bs).bytes off n = (bs.drop off).take n := by
  refine List.ext_getElem (by simp; omega) fun i _ hi => ?_
  have hi' : off + i < bs.length := by rw [List.length_take, List.length_drop] at hi; omega
  simp [Memory.bytes, Memory.read_ofBytes, hi']

theorem Memory.wordAt_ofBytes (bs : List Byte) (off : Nat) : (Memory.ofBytes bs).wordAt off =
    wordOfBytes (bs.getD off 0#8) (bs.getD (off + 1) 0#8) (bs.getD (off + 2) 0#8) (bs.getD (off + 3) 0#8) := by
  simp only [Memory.wordAt, Memory.read_ofBytes]

/-- The state after the header of an image is read (R24). -/
def State.loadHeader (bs : List Byte) : State :=
  { State.load bs with stage := .bootcode, pos := 0x40, header := some (headerOf (Memory.ofBytes bs)) }

/-- The first step over an image of at least 64 bytes: the header is read, if the name is text. -/
theorem step_load {bs : List Byte} (h : 0x40 ≤ bs.length) : step (State.load bs) =
    if Config.textValid ((bs.drop 0x20).take 20) then .next (State.loadHeader bs)
    else .fault (.invalidText ((bs.drop 0x20).take 20)) := by
  have hname : (headerOf (State.load bs).image).imageName = (bs.drop 0x20).take 20 :=
    Memory.bytes_ofBytes (by omega)
  rw [step_of_header rfl, readHeader_of_long h, hname]
  rfl

/-- Settles O42: below 64 bytes the first step stops; else the first step reads the header, and the second stops. -/
theorem shortImageFails : Obligations.ShortImageFails := by
  intro bs hshort k hk
  obtain ⟨j, rfl⟩ := Nat.exists_eq_add_of_le' hk
  by_cases hlen : bs.length < 64
  · rw [if_pos hlen]
    exact run_fault ((step_fault_iff _).2 (.inl ⟨rfl, hlen, rfl⟩)) (j + 1)
  · have hload := step_load (Nat.not_lt.1 hlen)
    rw [if_neg hlen]
    split at hload
    next hname =>
      have hstop : step (State.loadHeader bs) = .fault (.insufficientData .bootcode) :=
        (step_fault_iff _).2 (.inr (.inr ⟨rfl, fun h => Nat.not_le.2 hshort h.1, rfl⟩))
      rw [if_pos hname, run_next hload (j + 1), run_fault hstop j]
    next hname =>
      rw [if_neg hname, run_fault hload (j + 1)]

/-! ### A whole image -/

/-- R227: once the 1008th word is collected the run has ended. -/
theorem State.Inv.complete_of_length (hinv : s.Inv) (h : s.results.length = 1008) : s.stage = .complete := by
  obtain hs | hs | hs := stage_cases s
  · obtain ⟨-, -, hres⟩ := (stageOk_of_header hs).1 hinv.stage_ok
    simp [hres] at h
  · obtain ⟨-, hlt, -⟩ := (stageOk_of_bootcode hs).1 hinv.stage_ok
    exact absurd h hlt.ne
  · exact hs

theorem State.output_of_complete {h : Header} (hs : s.stage = .complete) (hh : s.header = some h) :
    s.output = some (h, s.results) := by
  simp only [State.output, hs, hh]

/-- The 1008 steps after the header of a whole image is read end the run. -/
theorem run_loadHeader {bs : List Byte} (hlen : 4096 ≤ bs.length)
    (hstep : step (State.load bs) = .next (State.loadHeader bs)) :
    ∃ t : State, Host.Core.run Sys2Proof.core 1009 (State.load bs) = .next t ∧ t.Inv ∧ t.results.length = 1008 ∧
      t.image = Memory.ofBytes bs ∧ t.header = some (headerOf (Memory.ofBytes bs)) := by
  obtain ⟨t, hrun, hres, himage, -, hheader, -⟩ :=
    run_words 1008 (State.loadHeader bs) 0 (fun _ => rfl) hlen rfl le_rfl
  have hrun' : Host.Core.run Sys2Proof.core 1009 (State.load bs) = .next t := (run_next hstep 1008).trans hrun
  refine ⟨t, hrun', run_keeps_inv (loadMeetsInvariant bs) hrun', ?_, himage, hheader⟩
  rw [hres, List.length_append, List.length_map, List.length_range]; rfl

/-- Settles O44: one step for the header, 1008 for the words, and then the run stays as it is. -/
theorem wholeImageRun : Obligations.WholeImageRun := by
  intro bs hlen k hk
  obtain ⟨j, rfl⟩ := Nat.exists_eq_add_of_le hk
  have hload := step_load (show 0x40 ≤ bs.length by omega)
  split at hload
  next hname =>
    obtain ⟨t, hrun, hinv, hcount, himage, hheader⟩ := run_loadHeader hlen hload
    have hend := hinv.complete_of_length hcount
    rw [if_pos hname]
    refine ⟨t, (run_add hrun j).trans (run_of_complete hend j), hend, hcount, hheader,
      State.output_of_complete hend hheader, fun i hi => ?_⟩
    rw [hinv.getElem?_results (hcount.symm ▸ hi), himage, Memory.wordAt_ofBytes, wordOffset_eq]
  next hname =>
    rw [if_neg hname, Nat.add_comm]
    exact run_fault hload _

end Sys2Proof.Machine
end
